-- ==== Sys2Proof/Word.lean ====
section
/-! DEFINITION. The word types of the block's ports, of its chip-register transport and of its state
(spec/00_scope.md R5, R7, R8; spec/30_encoding.md R70, R74). -/

namespace Sys2Proof

/-- One byte. -/
abbrev Byte := BitVec 8

/-- A chip-register address: 8 bits (R5, R50). -/
abbrev RegAddr := BitVec 8

/-- A chip-register value: 16 bits (R5, R50). -/
abbrev RegValue := BitVec 16

/-- A user frequency on a port: an unsigned 32-bit count of hertz (R8). -/
abbrev Hz := BitVec 32

/-- A command word: 69 bits (R70). -/
abbrev Command := BitVec 69

end Sys2Proof
end

