-- ==== Sys2Proof/Machine/Arith.lean ====
section
/-! DEFINITION. The arithmetic primitives of spec/00_scope.md R9. -/

namespace Sys2Proof.Machine

open Sys2Proof

/-- `roundHA(q)`: the nearest integer, ties away from zero (R9). -/
def roundHA (q : Rat) : Int :=
  if 0 ≤ q then (q + 1 / 2).floor else -((-q + 1 / 2).floor)

/-- `clamp(v, lo, hi)` (R9). -/
def clamp (v lo hi : Int) : Int := min (max v lo) hi

/-- `satinc8(n)` (R9). -/
def satinc8 (n : BitVec 8) : BitVec 8 := BitVec.ofNat 8 (min (n.toNat + 1) 255)

/-- `field(v, lsb, w)`: w bits of v from bit lsb up (R9). -/
def field (v : RegValue) (lsb w : Nat) : BitVec w := (v >>> lsb).setWidth w

/-- The bits of a register that the field at `lsb` of width `w` covers: `((2^w)-1) << lsb` mod 2^16 (R9). -/
def fieldMask (lsb w : Nat) : RegValue := BitVec.ofNat 16 ((2 ^ w - 1) <<< lsb)

/-- `setfield(v, lsb, w, x)` (R9). -/
def setField (v : RegValue) (lsb w x : Nat) : RegValue :=
  (v &&& ~~~fieldMask lsb w) ||| BitVec.ofNat 16 ((x % 2 ^ w) <<< lsb)

end Sys2Proof.Machine
end

