-- ==== Sys2Proof/Config.lean ====
section
/-! DEFINITION. The fixed constants of spec/00_scope.md R5, the configuration record `Cfg` of R6 and
spec/10_state.md R40, and the free values the transport answers with (R11). -/

namespace Sys2Proof

/-! ## Fixed constants (R5, R8) -/

/-- Nanohertz in one megahertz: 10^15 (R8). -/
def nhzPerMHz : Int := 10 ^ 15

/-- Nanohertz in one hertz: 10^9 (R8). -/
def nhzPerHz : Int := 10 ^ 9

/-- `IF`: 0.137 MHz = 137 000 Hz, in nHz (R5, R105). -/
def ifNHz : Int := 137000 * nhzPerHz

/-- `OFFSET_MAX`: 50 kHz = 50 000 Hz, in nHz (R5, R27). -/
def offsetMaxNHz : Int := 50000 * nhzPerHz

/-- `XTAL` in MHz: 21.25 = 85/4 (R5, R103). -/
def xtalMHz : Rat := 85 / 4

/-- `MARGIN`: 3 raw-RSSI units (R5, R162). -/
def margin : Rat := 3

/-- `SNR_MIN`: 2 (R5, R162). -/
def snrMin : Nat := 2

/-- `ALPHA_RISE`: 1/5, used while undetected (R5, R163). -/
def alphaRise : Rat := 1 / 5

/-- `ALPHA_FALL`: 3/5, used while detected (R5, R163). -/
def alphaFall : Rat := 3 / 5

/-- `OVERLOAD`: 125 raw-RSSI units (R5, R170). -/
def overload : Rat := 125

/-- `GAIN_MAX`: gain levels are 0..7 (R5). -/
def gainMax : Nat := 7

/-- The largest of the `SQL_N` = 10 squelch indices 0..9 (R5). -/
def sqlMax : Nat := 9

/-! ## The configuration record (R6, R40) -/

/-- `AGC_RSSI_SRC`: which signal level the AGC compares (R6, R170; 92_eei_decisions.md D20). -/
inductive AgcRssiSrc where
  | raw
  | filtered
deriving DecidableEq, Repr

/-- `AGC_LOW_STEP`: +1 or -1, the AGC's step on a low signal (R6, R170; D21). -/
inductive AgcLowStep where
  | plusOne
  | minusOne
deriving DecidableEq, Repr

/-- The step as an integer. -/
def AgcLowStep.toInt : AgcLowStep → Int
  | .plusOne => 1
  | .minusOne => -1

/-- One (address, value) pair of a static block (R79). -/
structure RegWrite where
  addr : RegAddr
  value : RegValue
deriving DecidableEq, Repr

/-- One dynamic register (R6, R29). -/
structure DynReg where
  /-- `DYN_ADDR[k]`. -/
  addr : RegAddr
  /-- `DYN_RESET[k]`, the power-on cache value. -/
  reset : RegValue
  /-- DESIGN CHOICE, safe (log entry 11): the bits of this register that DYN_WRITE is used to own, for example volume
  or power (R86), which no parameter of R6 names. No meaning reads them. -/
  owned : RegValue
deriving DecidableEq, Repr

/-- The configuration: every parameter that R6 names. It is fixed for a run and no operation writes it
(R40). The constraints on its fields are `Cfg.wf`. -/
structure Cfg where
  /-- `REG_DIV`, `REG_TWH`, `REG_TWL`: the frequency registers' addresses (D35). -/
  regDiv : RegAddr
  regTwh : RegAddr
  regTwl : RegAddr
  /-- `REG_SQ`, `RSSI_LSB`, `SNR_LSB`: the signal-quality register and its fields (D17, R83). -/
  regSq : RegAddr
  rssiLsb : Nat
  snrLsb : Nat
  /-- `DYN_ADDR[k]` and `DYN_RESET[k]` for k = 0..N_DYN-1 (D34), with the bits that DYN_WRITE owns (R86). -/
  dynRegs : List DynReg
  /-- `TX_BLOCK`, `RX_BLOCK`, `COMMON_BLOCK` (D34, R79). -/
  txBlock : List RegWrite
  rxBlock : List RegWrite
  commonBlock : List RegWrite
  /-- `GAIN_K`, `GAIN_LSB`: where the 3-bit gain field sits (D22, R84). -/
  gainK : Nat
  gainLsb : Nat
  /-- `SQL_K`, `SQL_LSB`, `SQL_WIDTH`, `SQL_ENC`: where the squelch field sits and how an index is
  encoded into it (D23, R85). -/
  sqlK : Nat
  sqlLsb : Nat
  sqlWidth : Nat
  sqlEnc : Vector (BitVec 16) 10
  /-- `SQL_TABLE[0..9]`: raw-RSSI thresholds (D23). -/
  sqlTable : Vector (BitVec 8) 10
  /-- `SQL_RESET`: the power-on squelch index (D26). -/
  sqlReset : BitVec 4
  /-- `ERR_THRESHOLD` (D15). -/
  errThreshold : Nat
  /-- `MODE_TX_LEVEL`, a one-bit level (D13). -/
  modeTxLevel : Bool
  /-- `AGC_LOW_STEP` (D21). -/
  agcLowStep : AgcLowStep
  /-- `AGC_RSSI_SRC` (D20). -/
  agcRssiSrc : AgcRssiSrc
  /-- `T_SETTLE` in milliseconds: timing only, read by no rule (D38, R245; log entry 10). -/
  tSettleMs : Nat
deriving DecidableEq, Repr

/-- `N_DYN` (R6). -/
def Cfg.nDyn (c : Cfg) : Nat := c.dynRegs.length

/-- The bits of the dynamic register k that DYN_WRITE is used to own (R86), none where there is no register k. -/
def Cfg.dynOwned (c : Cfg) (k : Nat) : RegValue := (c.dynRegs.map DynReg.owned).getD k 0

/-- DESIGN CHOICE, unsafe (log entry 1): the configuration that `State.reset` holds. Its values are the
concrete ones of spec/95_test_vectors.md section 1, which the spec calls a test fixture and not a claim
about the hardware, 20 ms for `T_SETTLE` (log entry 10), and the field of R175's example as the bits that
DYN_WRITE owns (log entry 11). No meaning uses it: every operation reads
the configuration of its state. -/
def Cfg.standard : Cfg where
  regDiv := 0x30
  regTwh := 0x31
  regTwl := 0x32
  regSq := 0x40
  rssiLsb := 0
  snrLsb := 8
  dynRegs := [⟨0x50, 0x0000, 0x001F⟩, ⟨0x51, 0x0037, 0x0000⟩]
  txBlock := [⟨0x10, 0x1111⟩]
  rxBlock := [⟨0x11, 0x2222⟩]
  commonBlock := [⟨0x12, 0x3333⟩]
  gainK := 1
  gainLsb := 0
  sqlK := 1
  sqlLsb := 4
  sqlWidth := 4
  sqlEnc := #v[0, 1, 2, 3, 4, 5, 6, 7, 8, 9]
  sqlTable := #v[60, 67, 74, 81, 88, 95, 102, 109, 116, 127]
  sqlReset := 3
  errThreshold := 1
  modeTxLevel := true
  agcLowStep := .plusOne
  agcRssiSrc := .raw
  tSettleMs := 20

/-! ## Free values (R11; 93_implementation_defined.md items 4 and 5; log entry 2) -/

/-- Whether the n-th access that State lists no answer for succeeds: any value. -/
opaque Config.freeOk : Nat → Bool

/-- The 16-bit value drawn by the n-th access that State lists no answer for: any value. -/
opaque Config.freeValue : Nat → RegValue

end Sys2Proof
end

