-- ==== Sys2Proof/Machine/State.lean ====
section
/-! DEFINITION. The state of the block (spec/10_state.md R20 to R40), its ports (spec/30_encoding.md R70, R74, R75),
the reasons a step can stop, and the state after power-on reset (spec/70_reset_and_hazards.md R240). -/

namespace Sys2Proof.Machine

open Sys2Proof

/-- A bus event (R10, R39). -/
inductive BusEvent where
  /-- `W(a, v, ok)`: a MemWrite and the transport's answer. -/
  | write (addr : RegAddr) (value : RegValue) (ok : Bool)
  /-- `R(a, v, ok)`: a MemRead, the value drawn and the transport's answer (log entry 3 for `ok = false`). -/
  | read (addr : RegAddr) (value : RegValue) (ok : Bool)
  /-- `L(level)`: the mode-switch line is driven. -/
  | line (level : Bool)
  /-- `S`: the settle delay. -/
  | settle
deriving DecidableEq, Repr

/-- A status code (R75). Codes 6 and 7 are never produced, so they have no constructor. -/
inductive Status where
  | ok
  | unsupported
  | noFreq
  | overflow
  | illegal
  | badIndex
deriving DecidableEq, Repr

/-- The 3-bit code of a status (R75). -/
def Status.code : Status → BitVec 3
  | .ok => 0
  | .unsupported => 1
  | .noFreq => 2
  | .overflow => 3
  | .illegal => 4
  | .badIndex => 5

/-- A response: status and the two results (R74). -/
structure Response where
  status : Status
  r0 : BitVec 64
  r1 : BitVec 32
deriving DecidableEq, Repr

/-- The 99-bit response word: `status` in 98:96, `r0` in 95:32, `r1` in 31:0 (R74). -/
def Response.word (r : Response) : BitVec 99 := r.status.code ++ r.r0 ++ r.r1

/-- One answer of the transport to one access: whether it succeeds and the value a read takes (R11). -/
structure Answer where
  ok : Bool
  value : RegValue
deriving DecidableEq, Repr

/-- The state of the block. -/
structure State where
  /-- The configuration, which no operation writes (R40; log entry 1). -/
  cfg : Cfg
  /-- The RX/TX state flag, true for TX (R22). -/
  isTx : Bool
  /-- The level of the mode-switch line (R23). -/
  modeLine : Bool
  /-- The current TX frequency, before the offset (R24). -/
  txFreq : Option Hz
  /-- The current RX frequency, before the offset (R25). -/
  rxFreq : Option Hz
  /-- The last requested user frequency (R26). -/
  lastUserFreq : Option Hz
  /-- The frequency offset in nHz, a signed integer stored in 64 bits (R27; log entry 7). -/
  offset : BitVec 64
  /-- The dynamic-register cache `dyn[0..N_DYN-1]` (R29). -/
  dyn : List RegValue
  /-- The squelch index (R31). -/
  sqlIndex : BitVec 4
  /-- The latest raw RSSI sample (R33). -/
  rssi : BitVec 8
  /-- The latest raw SNR sample (R34). -/
  snr : BitVec 6
  /-- The exponentially filtered RSSI estimate, exact (R35). -/
  filt : Rat
  /-- The detection state (R36). -/
  det : Bool
  /-- The last S-meter reading (R37). -/
  smeter : BitVec 4
  /-- The transport-error count (R38). -/
  errCount : BitVec 8
  /-- The bus trace, oldest event first (R39). -/
  trace : List BusEvent
  /-- The commands the host has yet to present, the next one first (R70, R76; log entry 4). -/
  cmds : List Command
  /-- The response port: the response to the last command, none before the first (R74; log entry 5). -/
  rsp : Option Response
  /-- The model's own: the transport's answers still to come (R11; log entry 2). -/
  answers : List Answer
  /-- The model's own: how many accesses were answered by a free value (R11; log entry 2). -/
  draws : Nat
deriving DecidableEq, Repr

/-- Why the machine stops with a fault: never. No operation traps, faults or halts (R220), so the type is empty.
Safe: nothing is claimed of a state that does not exist. -/
inductive Fault where
deriving DecidableEq, Repr

/-- Why a step is refused. -/
inductive Refusal where
  /-- An instruction without a meaning, by its mnemonic. No arm of `exec` raises it: every instruction has its
  meaning. Safe. -/
  | notModelled (mnemonic : String)
  /-- The configuration breaks a well-formedness constraint; `step` raises it instead of running a command (R86;
  93_implementation_defined.md item 12; log entry 12). Safe: the spec puts such a configuration outside the model. -/
  | illFormedConfig
deriving DecidableEq, Repr

/-- The state after power-on reset under a configuration (R240; the reset values of R22 to R39). -/
def State.powerOn (c : Cfg) : State where
  cfg := c
  isTx := false
  modeLine := !c.modeTxLevel
  txFreq := none
  rxFreq := none
  lastUserFreq := none
  offset := 0
  dyn := c.dynRegs.map DynReg.reset
  sqlIndex := c.sqlReset
  rssi := 0
  snr := 0
  filt := 0
  det := false
  smeter := 0
  errCount := 0
  trace := []
  cmds := []
  rsp := none
  answers := []
  draws := 0

/-- The machine right after reset: power-on reset (R240) under the configuration of log entry 1. -/
def State.reset : State := State.powerOn Cfg.standard

end Sys2Proof.Machine
end

