-- ==== Sys2Proof/Machine/Flags.lean ====
section
/-! DEFINITION. The views of the state: gain, threshold and the sticky error flag (spec/10_state.md R30, R32, R38),
which are computed and never stored. The block has no other condition codes than `isTx`, `det` and `isError`. -/

namespace Sys2Proof.Machine

open Sys2Proof

/-- `dyn[k]`, 0 where the cache has no entry k (log entry 13). -/
def State.dynAt (s : State) (k : Nat) : RegValue := s.dyn.getD k 0

/-- `DYN_ADDR[k]`, 0 where there is no dynamic register k (log entry 13). -/
def dynAddr (c : Cfg) (k : Nat) : RegAddr := (c.dynRegs.map DynReg.addr).getD k 0

/-- `gain = field(dyn[GAIN_K], GAIN_LSB, 3)` (R30, R84). -/
def State.gain (s : State) : BitVec 3 := field (s.dynAt s.cfg.gainK) s.cfg.gainLsb 3

/-- `thr = SQL_TABLE[sqlIndex]` (R32), 0 for an index above 9 (log entry 13). -/
def State.thr (s : State) : BitVec 8 := s.cfg.sqlTable[s.sqlIndex.toNat]?.getD 0

/-- `SQL_ENC(i)` (R85), 0 for an index above 9 (log entry 13). -/
def sqlEncode (c : Cfg) (i : Nat) : BitVec 16 := c.sqlEnc[i]?.getD 0

/-- `isError = (errCount ≥ ERR_THRESHOLD)`, the sticky error flag (R38). -/
def State.isError (s : State) : Bool := s.cfg.errThreshold ≤ s.errCount.toNat

end Sys2Proof.Machine
end

