-- ==== Sys2Proof/Machine/Operands.lean ====
section
/-! DEFINITION. How an operation reads its operands (spec/30_encoding.md R71, R72; spec/00_scope.md R8). -/

namespace Sys2Proof.Machine

open Sys2Proof

/-- `nhz(f_Hz) = f_Hz * 10^9`: an unsigned port frequency in nHz (R8, R72). -/
def nhz (f : Hz) : Int := (f.toNat : Int) * nhzPerHz

/-- `sext_32`: the value of a two's-complement 32-bit operand (R72). -/
def signedOperand (v : BitVec 32) : Int := v.toInt

/-- `min(level, 9)`: the squelch index of a level operand (R173). -/
def sqlLevel (level : BitVec 8) : BitVec 4 := BitVec.ofNat 4 (min level.toNat sqlMax)

/-- `min(level, 7)`: the gain of a level operand (R174). -/
def gainLevel (level : BitVec 8) : BitVec 3 := BitVec.ofNat 3 (min level.toNat gainMax)

end Sys2Proof.Machine
end

