-- ==== Sys2Proof/Machine/Ops.lean ====
section
/-! DEFINITION. The pseudocode primitives of spec/00_scope.md R10 and R11 over the state, and the register-write
operations shared by the instructions (spec/41_tuning.md R133, spec/42_signal.md R161). The block has no trap entry
and no trap return (spec/60_exceptions.md R225), so there is no operation that takes or leaves an exception. -/

namespace Sys2Proof.Machine

open Sys2Proof

/-- The transport's answer to the next access: the next listed one, or a free value (R11; log entry 2). -/
def State.answer (s : State) : Answer :=
  match s.answers with
  | a :: _ => a
  | [] => ⟨Config.freeOk s.draws, Config.freeValue s.draws⟩

/-- One access answered `ok`: the event goes on the trace, a failure counts in `errCount` (R11, R38), and the
answer is used up. -/
def State.access (s : State) (ok : Bool) (e : BusEvent) : State :=
  { s with
    trace := s.trace ++ [e]
    errCount := if ok then s.errCount else satinc8 s.errCount
    answers := s.answers.tail
    draws := if s.answers.isEmpty then s.draws + 1 else s.draws }

/-- `MemWrite(a, 2, v)` (R10). -/
def memWrite (a : RegAddr) (v : RegValue) (s : State) : State :=
  s.access s.answer.ok (.write a v s.answer.ok)

/-- The value `MemRead` returns: the drawn one when the transport answers ok, else 0 (R10, R63). -/
def memReadValue (s : State) : RegValue := if s.answer.ok then s.answer.value else 0

/-- The state after `MemRead(a, 2)` (R10). -/
def memRead (a : RegAddr) (s : State) : State :=
  s.access s.answer.ok (.read a s.answer.value s.answer.ok)

/-- `SetLine(level); modeLine <- level` (R10, R133). -/
def setLine (level : Bool) (s : State) : State :=
  { s with modeLine := level, trace := s.trace ++ [.line level] }

/-- `Settle()` (R10, R245). -/
def settle (s : State) : State := { s with trace := s.trace ++ [.settle] }

/-- A response on the response port (R10, R74). -/
def respond (r : Response) (s : State) : State := { s with rsp := some r }

/-- `finish <Status>(r0, r1)`: drives the response port (R10, R74). -/
def finish (st : Status) (r0 : BitVec 64) (r1 : BitVec 32) (s : State) : State := respond ⟨st, r0, r1⟩ s

/-- One MemWrite per pair, in list order (R133). -/
def writeAll : List RegWrite → State → State
  | [], s => s
  | w :: ws, s => writeAll ws (memWrite w.addr w.value s)

/-- `dyn[k] <- v; MemWrite(DYN_ADDR[k], 2, dyn[k])`: the write-through update of the cache, kept even when the write
fails (R62). -/
def writeDyn (k : Nat) (v : RegValue) (s : State) : State :=
  memWrite (dynAddr s.cfg k) v { s with dyn := s.dyn.set k v }

/-- `WriteField(k, lsb, w, x)`, the read-modify-write of the cached register (R161). -/
def writeField (k lsb w x : Nat) (s : State) : State :=
  writeDyn k (setField (s.dynAt k) lsb w x) s

end Sys2Proof.Machine
end

