-- ==== Sys2Proof/Machine/Signal.lean ====
section
/-! DEFINITION. The signal path (spec/42_signal.md): READ_SQ, DETECT, SMETER, AGC, SET_SQL, SET_GAIN and DYN_WRITE.
A `…Body` is an operation's pseudocode without its `finish`, as TICK composes it (spec/43_control.md R203). -/

namespace Sys2Proof.Machine

open Sys2Proof

/-! ## Sample (R160) -/

/-- READ_SQ without its finish (R160, R83). -/
def readSqBody (s : State) : State :=
  { memRead s.cfg.regSq s with
    rssi := field (memReadValue s) s.cfg.rssiLsb 8
    snr := field (memReadValue s) s.cfg.snrLsb 6 }

/-- READ_SQ (R160). -/
def execReadSq (s : State) : Host.Outcome State Fault Refusal :=
  .next (finish .ok ((readSqBody s).rssi.setWidth 64) ((readSqBody s).snr.setWidth 32) (readSqBody s))

/-! ## Hysteresis detector (R162 to R166) -/

/-- The smoothing factor, chosen from the detection state before the call (R163). -/
def alpha (det : Bool) : Rat := if det then alphaFall else alphaRise

/-- The filter update `alpha * rssi + (1 - alpha) * filt` (R163). -/
def filtNext (s : State) : Rat := alpha s.det * (s.rssi.toNat : Rat) + (1 - alpha s.det) * s.filt

/-- The condition to become detected, on the updated filter value (R164). -/
def risesAt (s : State) (filt : Rat) : Bool := (s.thr.toNat : Rat) + margin < filt && snrMin ≤ s.snr.toNat && !s.isTx

/-- The condition to become undetected, on the updated filter value (R165). -/
def fallsAt (s : State) (filt : Rat) : Bool := filt < (s.thr.toNat : Rat) - margin || s.snr.toNat < snrMin

/-- The detection state after the call (R164, R165). -/
def detNext (s : State) : Bool := if s.det then !fallsAt s (filtNext s) else risesAt s (filtNext s)

/-- DETECT without its finish (R166). -/
def detectBody (s : State) : State := { s with filt := filtNext s, det := detNext s }

/-- DETECT (R166). -/
def execDetect (s : State) : Host.Outcome State Fault Refusal :=
  .next (finish .ok ((BitVec.ofBool (detectBody s).det).setWidth 64) 0 (detectBody s))

/-! ## S-meter (R168, R169) -/

/-- `smeterOf(x)`: how many entries of SQL_TABLE x reaches (R168). -/
def smeterOf (c : Cfg) (x : Nat) : Nat := c.sqlTable.toList.countP fun t => t.toNat ≤ x

/-- SMETER without its finish (R169). -/
def smeterBody (s : State) : State := { s with smeter := BitVec.ofNat 4 (smeterOf s.cfg s.rssi.toNat) }

/-- SMETER (R169). -/
def execSmeter (s : State) : Host.Outcome State Fault Refusal :=
  .next (finish .ok ((smeterBody s).smeter.setWidth 64) 0 (smeterBody s))

/-! ## AGC (R170, R171) -/

/-- `agcNext(rx, x, g, t)`: the next gain level (R170). -/
def agcNext (step : AgcLowStep) (rx : Bool) (x : Rat) (g : BitVec 3) (t : Rat) : BitVec 3 :=
  if !rx then 7
  else if x ≤ t then BitVec.ofInt 3 (clamp ((g.toNat : Int) + step.toInt) 0 7)
  else if overload < x then BitVec.ofInt 3 (max ((g.toNat : Int) - 1) 0)
  else g

/-- The signal level the AGC compares: `rssi` or `filt` as AGC_RSSI_SRC says (R170, R171). -/
def agcLevel (s : State) : Rat :=
  match s.cfg.agcRssiSrc with
  | .raw => (s.rssi.toNat : Rat)
  | .filtered => s.filt

/-- The gain level one AGC step asks for (R171). -/
def agcGain (s : State) : BitVec 3 := agcNext s.cfg.agcLowStep s.det (agcLevel s) s.gain (s.thr.toNat : Rat)

/-- AGC without its finish: a write only on a change (R171). -/
def agcBody (s : State) : State :=
  if agcGain s = s.gain then s else writeField s.cfg.gainK s.cfg.gainLsb 3 (agcGain s).toNat s

/-- AGC (R171). -/
def execAgc (s : State) : Host.Outcome State Fault Refusal :=
  .next (finish .ok ((agcGain s).setWidth 64) (if agcGain s = s.gain then 0 else 1) (agcBody s))

/-! ## Field writes (R173 to R175) -/

/-- SET_SQL (R173). -/
def execSetSql (level : BitVec 8) (s : State) : Host.Outcome State Fault Refusal :=
  .next (finish .ok ((sqlLevel level).setWidth 64) 0
    (writeField s.cfg.sqlK s.cfg.sqlLsb s.cfg.sqlWidth (sqlEncode s.cfg (sqlLevel level).toNat).toNat
      { s with sqlIndex := sqlLevel level }))

/-- SET_GAIN (R174). -/
def execSetGain (level : BitVec 8) (s : State) : Host.Outcome State Fault Refusal :=
  .next (finish .ok ((gainLevel level).setWidth 64) 0
    (writeField s.cfg.gainK s.cfg.gainLsb 3 (gainLevel level).toNat s))

/-- `(old AND NOT mask) OR (value AND mask)` (R175). -/
def maskedValue (old mask value : RegValue) : RegValue := (old &&& ~~~mask) ||| (value &&& mask)

/-- The state after DYN_WRITE: BAD_INDEX with nothing else done where there is no register `k` (R175). -/
def afterDynWrite (k : Nat) (mask value : RegValue) (s : State) : State :=
  if s.cfg.nDyn ≤ k then finish .badIndex 0 0 s
  else finish .ok ((maskedValue (s.dynAt k) mask value).setWidth 64) 0
    (writeDyn k (maskedValue (s.dynAt k) mask value) s)

/-- DYN_WRITE (R175). -/
def execDynWrite (k : BitVec 8) (mask value : RegValue) (s : State) : Host.Outcome State Fault Refusal :=
  .next (afterDynWrite k.toNat mask value s)

end Sys2Proof.Machine
end

