-- ==== Sys2Proof/Machine/Synth.lean ====
section
/-! DEFINITION. The frequency synthesizer (spec/40_synthesizer.md): its pure functions and CLASSIFY, SYNTH and
QUANTIZE. -/

namespace Sys2Proof.Machine

open Sys2Proof

/-- A row of the band table: the divider ratio and the divider code (R100, R80). -/
structure DivClass where
  ratio : Nat
  code : RegValue
deriving DecidableEq, Repr

/-- `classify(a)`, with `a` in nHz: the first row of the band table that holds a, none if Unsupported (R100, R101). -/
def classify (a : Int) : Option DivClass :=
  if 384 * nhzPerMHz < a ∧ a ≤ 512 * nhzPerMHz then some ⟨4, 0x0002⟩
  else if 128 * nhzPerMHz ≤ a ∧ a ≤ 170 * nhzPerMHz then some ⟨12, 0x2004⟩
  else if 43 * nhzPerMHz ≤ a ∧ a ≤ 57 * nhzPerMHz then some ⟨36, 0x8008⟩
  else if 35 * nhzPerMHz ≤ a ∧ a ≤ 46 * nhzPerMHz then some ⟨44, 0xA00A⟩
  else if 24 * nhzPerMHz ≤ a ∧ a ≤ 32 * nhzPerMHz then some ⟨64, 0xC00F⟩
  else none

/-- `tw(t, ratio) = roundHA(t * ratio * 2^26 / (85 * 10^15))`, the tuning word of t nHz (R103). -/
def tw (t : Int) (ratio : Nat) : Int :=
  roundHA (((t * ratio * 2 ^ 26 : Int) : Rat) / ((85 * 10 ^ 15 : Int) : Rat))

/-- `lo(isTxMode, a)`: the local-oscillator target of an adjusted frequency (R105). -/
def lo (tx : Bool) (a : Int) : Int := if tx then a else a - ifNHz

/-- `quantize(f, step)`: the nearest multiple of step, f itself for a step of zero or less (R108). -/
def quantize (f : Nat) (step : Int) : Int :=
  if step ≤ 0 then f else roundHA ((f : Rat) / (step : Rat)) * step

/-- The response of CLASSIFY to a row of the band table or to none (R106). -/
def classifyResponse : Option DivClass → Response
  | none => ⟨.unsupported, 0, 0⟩
  | some d => ⟨.ok, BitVec.ofNat 64 d.ratio, d.code.setWidth 32⟩

/-- CLASSIFY (R106). -/
def execClassify (freq : Hz) (s : State) : Host.Outcome State Fault Refusal :=
  .next (respond (classifyResponse (classify (nhz freq))) s)

/-- The response of SYNTH to the exact word (R107). -/
def synthResponse (w : Int) : Response :=
  if 2 ^ 32 ≤ w then ⟨.overflow, 0, 0⟩ else ⟨.ok, BitVec.ofInt 64 w, BitVec.ofInt 32 w⟩

/-- SYNTH (R107). -/
def execSynth (target : Hz) (ratio : BitVec 8) (s : State) : Host.Outcome State Fault Refusal :=
  .next (respond (synthResponse (tw (nhz target) ratio.toNat)) s)

/-- QUANTIZE (R109). -/
def execQuantize (freq : Hz) (step : BitVec 32) (s : State) : Host.Outcome State Fault Refusal :=
  .next (finish .ok (BitVec.ofInt 64 (quantize freq.toNat (signedOperand step))) 0 s)

end Sys2Proof.Machine
end

