-- ==== Sys2Proof/Machine/Tuning.lean ====
section
/-! DEFINITION. Tuning (spec/41_tuning.md): the plan of the frequency registers, the mode-switch sequence, the
re-tune, and ENTER_TX, ENTER_RX, SET_OFFSET_HZ and SET_OFFSET_PPM. -/

namespace Sys2Proof.Machine

open Sys2Proof

/-- The offset as an integer of nHz (R27). -/
def State.offsetNHz (s : State) : Int := s.offset.toInt

/-- `adj(f) = f * 10^9 + offset` (R130). -/
def adj (s : State) (f : Hz) : Int := nhz f + s.offsetNHz

/-- The three frequency-register values (R131). -/
structure Plan where
  code : RegValue
  twh : RegValue
  twl : RegValue
deriving DecidableEq, Repr

/-- The plan of a 32-bit tuning word: `twh = tw[31:16]`, `twl = tw[15:0]` (R82). -/
def planOfWord (code : RegValue) (w : BitVec 32) : Plan := ⟨code, w.extractLsb' 16 16, w.extractLsb' 0 16⟩

/-- The plan of a divider class and a local-oscillator target (R131). -/
def planFor (target : Int) (d : DivClass) : Plan := planOfWord d.code (BitVec.ofInt 32 (tw target d.ratio))

/-- `plan(tx, f)`, none if Unsupported; the class is that of the adjusted RF frequency in both modes (R131). -/
def plan (s : State) (tx : Bool) (f : Hz) : Option Plan :=
  (classify (adj s f)).map (planFor (lo tx (adj s f)))

/-- The level of the mode-switch line in a mode (R23, R133). -/
def lineLevel (c : Cfg) (tx : Bool) : Bool := if tx then c.modeTxLevel else !c.modeTxLevel

/-- The replay of the dynamic registers from the cache, in index order (R62, R133, R246). -/
def dynReplay (s : State) : List RegWrite := List.zipWith (fun d v => ⟨d.addr, v⟩) s.cfg.dynRegs s.dyn

/-- The three frequency-register writes: REG_DIV, then REG_TWH, then REG_TWL (R132, R244). -/
def freqWrites (c : Cfg) (p : Plan) : List RegWrite := [⟨c.regDiv, p.code⟩, ⟨c.regTwh, p.twh⟩, ⟨c.regTwl, p.twl⟩]

/-- Every register write of the mode-switch sequence, in order (R133). -/
def enterWrites (s : State) (tx : Bool) (p : Plan) : List RegWrite :=
  (if tx then s.cfg.txBlock else s.cfg.rxBlock) ++ s.cfg.commonBlock ++ dynReplay s ++ freqWrites s.cfg p

/-- The state updates that end a successful Enter (R133). -/
def recordTuned (tx : Bool) (f : Hz) (s : State) : State :=
  { s with
    isTx := tx
    txFreq := if tx then some f else s.txFreq
    rxFreq := if tx then s.rxFreq else some f
    lastUserFreq := some f }

/-- The mode-switch sequence with a plan in hand (R133). -/
def enterPlanned (tx : Bool) (f : Hz) (s : State) (p : Plan) : State :=
  recordTuned tx f (writeAll (enterWrites s tx p) (settle (setLine (lineLevel s.cfg tx) s)))

/-- The status of an Enter with a plan, or with none (R133, R134). -/
def planStatus : Option Plan → Status
  | none => .unsupported
  | some _ => .ok

/-- The status that `Enter(tx, f)` returns (R133, R134). -/
def enterStatus (tx : Bool) (f : Hz) (s : State) : Status := planStatus (plan s tx f)

/-- The state after `Enter(tx, f)`; a failed Enter changes nothing (R133, R134). -/
def enter (tx : Bool) (f : Hz) (s : State) : State := (plan s tx f).elim s (enterPlanned tx f s)

/-- The stored frequency of the active mode (R135). -/
def State.activeFreq (s : State) : Option Hz := if s.isTx then s.txFreq else s.rxFreq

/-- The status that `Retune()` returns (R135). -/
def retuneStatus (s : State) : Status := s.activeFreq.elim .ok fun f => enterStatus s.isTx f s

/-- The state after `Retune()` (R135). -/
def retune (s : State) : State := s.activeFreq.elim s fun f => enter s.isTx f s

/-- `offset <- clamp(v, -50000 * 10^9, 50000 * 10^9)`, v in nHz (R138, R139). -/
def setOffset (v : Int) (s : State) : State :=
  { s with offset := BitVec.ofInt 64 (clamp v (-offsetMaxNHz) offsetMaxNHz) }

/-- The end of both offset operations: set the offset, re-tune, answer with the offset (R138, R139). -/
def offsetAndRetune (v : Int) (s : State) : State :=
  finish (retuneStatus (setOffset v s)) (setOffset v s).offset 0 (retune (setOffset v s))

/-- ENTER_TX (R136). -/
def execEnterTx (freq : Hz) (s : State) : Host.Outcome State Fault Refusal :=
  .next (finish (enterStatus true freq s) 0 0 (enter true freq s))

/-- ENTER_RX (R137). -/
def execEnterRx (freq : Hz) (s : State) : Host.Outcome State Fault Refusal :=
  .next (finish (enterStatus false freq s) 0 0 (enter false freq s))

/-- SET_OFFSET_HZ (R138). -/
def execSetOffsetHz (val : BitVec 32) (s : State) : Host.Outcome State Fault Refusal :=
  .next (offsetAndRetune (signedOperand val * nhzPerHz) s)

/-- The state after SET_OFFSET_PPM: `f` Hz times `val` milli-ppm is `f * val` nHz; NO_FREQ with nothing else done
where no ENTER has succeeded (R139). -/
def afterSetOffsetPpm (val : BitVec 32) (s : State) : State :=
  s.lastUserFreq.elim (finish .noFreq 0 0 s) fun f => offsetAndRetune ((f.toNat : Int) * signedOperand val) s

/-- SET_OFFSET_PPM (R139). -/
def execSetOffsetPpm (val : BitVec 32) (s : State) : Host.Outcome State Fault Refusal := .next (afterSetOffsetPpm val s)

end Sys2Proof.Machine
end

