-- ==== Sys2Proof/Machine/Control.lean ====
section
/-! DEFINITION. Control (spec/43_control.md): IS_ERROR, CHIP_RESET, TICK and the reserved codes. -/

namespace Sys2Proof.Machine

open Sys2Proof

/-- IS_ERROR (R200). -/
def execIsError (s : State) : Host.Outcome State Fault Refusal :=
  .next (finish .ok ((BitVec.ofBool s.isError).setWidth 64) (s.errCount.setWidth 32) s)

/-- `errCount <- 0` (R202). -/
def clearErrors (s : State) : State := { s with errCount := 0 }

/-- The status of CHIP_RESET (R202). -/
def chipResetStatus (s : State) : Status := s.rxFreq.elim .ok fun f => enterStatus false f (clearErrors s)

/-- CHIP_RESET without its finish: clear the error count, then re-enter RX at the last known RX frequency (R202). -/
def chipResetBody (s : State) : State := s.rxFreq.elim (clearErrors s) fun f => enter false f (clearErrors s)

/-- CHIP_RESET (R202). -/
def execChipReset (s : State) : Host.Outcome State Fault Refusal :=
  .next (finish (chipResetStatus s) 0 0 (chipResetBody s))

/-- The first part of TICK: the body of CHIP_RESET when the sticky error flag is set (R203). -/
def tickReset (s : State) : State := if s.isError then chipResetBody s else s

/-- The status of TICK: that of its CHIP_RESET part, else OK (R203). -/
def tickStatus (s : State) : Status := if s.isError then chipResetStatus s else .ok

/-- TICK without its finish: reset part, READ_SQ, DETECT, AGC, SMETER (R203). -/
def tickBody (s : State) : State := smeterBody (agcBody (detectBody (readSqBody (tickReset s))))

/-- `{smeter[3:0], gain[2:0], det}` (R203). -/
def tickReport (s : State) : BitVec 8 := s.smeter ++ s.gain ++ BitVec.ofBool s.det

/-- TICK (R203). -/
def execTick (s : State) : Host.Outcome State Fault Refusal :=
  .next (finish (tickStatus s) ((tickReport (tickBody s)).setWidth 64) ((tickBody s).errCount.setWidth 32) (tickBody s))

/-- What a reserved code does: ILLEGAL, and nothing else (R204). -/
def reservedCode (s : State) : State := finish .illegal 0 0 s

/-- Reserved code 0x00 (R204). -/
def execReserved00 (s : State) : Host.Outcome State Fault Refusal := .next (reservedCode s)

/-- Reserved code 0x12 (R204). -/
def execReserved12 (s : State) : Host.Outcome State Fault Refusal := .next (reservedCode s)

/-- Reserved code 0x13 (R204). -/
def execReserved13 (s : State) : Host.Outcome State Fault Refusal := .next (reservedCode s)

/-- Reserved code 0x14 (R204). -/
def execReserved14 (s : State) : Host.Outcome State Fault Refusal := .next (reservedCode s)

/-- Reserved code 0x15 (R204). -/
def execReserved15 (s : State) : Host.Outcome State Fault Refusal := .next (reservedCode s)

/-- Reserved code 0x16 (R204). -/
def execReserved16 (s : State) : Host.Outcome State Fault Refusal := .next (reservedCode s)

/-- Reserved code 0x17 (R204). -/
def execReserved17 (s : State) : Host.Outcome State Fault Refusal := .next (reservedCode s)

/-- Reserved code 0x18 (R204). -/
def execReserved18 (s : State) : Host.Outcome State Fault Refusal := .next (reservedCode s)

/-- Reserved code 0x19 (R204). -/
def execReserved19 (s : State) : Host.Outcome State Fault Refusal := .next (reservedCode s)

/-- Reserved code 0x1A (R204). -/
def execReserved1A (s : State) : Host.Outcome State Fault Refusal := .next (reservedCode s)

/-- Reserved code 0x1B (R204). -/
def execReserved1B (s : State) : Host.Outcome State Fault Refusal := .next (reservedCode s)

/-- Reserved code 0x1C (R204). -/
def execReserved1C (s : State) : Host.Outcome State Fault Refusal := .next (reservedCode s)

/-- Reserved code 0x1D (R204). -/
def execReserved1D (s : State) : Host.Outcome State Fault Refusal := .next (reservedCode s)

/-- Reserved code 0x1E (R204). -/
def execReserved1E (s : State) : Host.Outcome State Fault Refusal := .next (reservedCode s)

/-- Reserved code 0x1F (R204). -/
def execReserved1F (s : State) : Host.Outcome State Fault Refusal := .next (reservedCode s)

end Sys2Proof.Machine
end

