-- ==== Sys2Proof/Syntax.lean ====
section
/-! DEFINITION. The operations of spec/30_encoding.md R73, one constructor per row of opcode_table.json, with the
operands of R71 and R72. A field that a format ignores is not part of the instruction. Every operand has exactly
the width of its command field, so every term is a legal instruction: range checks belong to the operations (R72). -/

namespace Sys2Proof

/-- An operation of the block. -/
inductive Instr where
  /-- 0x00, reserved (R204). -/
  | reserved00
  /-- 0x01, format F: classify `freq` Hz (R106). -/
  | classify (freq : Hz)
  /-- 0x02, format FR: the tuning word of `target` Hz with divider `ratio` (R107). -/
  | synth (target : Hz) (ratio : BitVec 8)
  /-- 0x03, format FS: round `freq` Hz to the nearest multiple of the signed `step` Hz (R109). -/
  | quantize (freq : Hz) (step : BitVec 32)
  /-- 0x04, format F: tune for transmit (R136). -/
  | enterTx (freq : Hz)
  /-- 0x05, format F: tune for receive (R137). -/
  | enterRx (freq : Hz)
  /-- 0x06, format S: set the offset to the signed `val` Hz and re-tune (R138). -/
  | setOffsetHz (val : BitVec 32)
  /-- 0x07, format S: set the offset to the signed `val` milli-ppm of the last user frequency and re-tune (R139). -/
  | setOffsetPpm (val : BitVec 32)
  /-- 0x08, format N: sample RSSI and SNR (R160). -/
  | readSq
  /-- 0x09, format N: one step of the hysteresis detector (R166). -/
  | detect
  /-- 0x0A, format N: one step of the gain loop (R171). -/
  | agc
  /-- 0x0B, format N: quantize the latest raw RSSI (R169). -/
  | smeter
  /-- 0x0C, format L: set the squelch index (R173). -/
  | setSql (level : BitVec 8)
  /-- 0x0D, format L: set the gain level (R174). -/
  | setGain (level : BitVec 8)
  /-- 0x0E, format D: write a masked field of dynamic register `k` (R175). -/
  | dynWrite (k : BitVec 8) (mask value : RegValue)
  /-- 0x0F, format N: query the sticky error flag (R200). -/
  | isError
  /-- 0x10, format N: the full chip reset (R202). -/
  | chipReset
  /-- 0x11, format N: one periodic radio task (R203). -/
  | tick
  /-- 0x12, reserved (R204). -/
  | reserved12
  /-- 0x13, reserved (R204). -/
  | reserved13
  /-- 0x14, reserved (R204). -/
  | reserved14
  /-- 0x15, reserved (R204). -/
  | reserved15
  /-- 0x16, reserved (R204). -/
  | reserved16
  /-- 0x17, reserved (R204). -/
  | reserved17
  /-- 0x18, reserved (R204). -/
  | reserved18
  /-- 0x19, reserved (R204). -/
  | reserved19
  /-- 0x1A, reserved (R204). -/
  | reserved1A
  /-- 0x1B, reserved (R204). -/
  | reserved1B
  /-- 0x1C, reserved (R204). -/
  | reserved1C
  /-- 0x1D, reserved (R204). -/
  | reserved1D
  /-- 0x1E, reserved (R204). -/
  | reserved1E
  /-- 0x1F, reserved (R204). -/
  | reserved1F
deriving DecidableEq, Repr

end Sys2Proof
end

