-- ==== Sys2Proof/Machine/Dispatch.lean ====
section
/-! DEFINITION. The dispatch: one arm per operation of spec/30_encoding.md R73. -/

namespace Sys2Proof.Machine
open Sys2Proof

def exec (i : Instr) (s : State) : Host.Outcome State Fault Refusal :=
  match i with
  | .reserved00 => Sys2Proof.Machine.execReserved00 s
  | .classify freq => Sys2Proof.Machine.execClassify freq s
  | .synth target ratio => Sys2Proof.Machine.execSynth target ratio s
  | .quantize freq step => Sys2Proof.Machine.execQuantize freq step s
  | .enterTx freq => Sys2Proof.Machine.execEnterTx freq s
  | .enterRx freq => Sys2Proof.Machine.execEnterRx freq s
  | .setOffsetHz val => Sys2Proof.Machine.execSetOffsetHz val s
  | .setOffsetPpm val => Sys2Proof.Machine.execSetOffsetPpm val s
  | .readSq => Sys2Proof.Machine.execReadSq s
  | .detect => Sys2Proof.Machine.execDetect s
  | .agc => Sys2Proof.Machine.execAgc s
  | .smeter => Sys2Proof.Machine.execSmeter s
  | .setSql level => Sys2Proof.Machine.execSetSql level s
  | .setGain level => Sys2Proof.Machine.execSetGain level s
  | .dynWrite k mask value => Sys2Proof.Machine.execDynWrite k mask value s
  | .isError => Sys2Proof.Machine.execIsError s
  | .chipReset => Sys2Proof.Machine.execChipReset s
  | .tick => Sys2Proof.Machine.execTick s
  | .reserved12 => Sys2Proof.Machine.execReserved12 s
  | .reserved13 => Sys2Proof.Machine.execReserved13 s
  | .reserved14 => Sys2Proof.Machine.execReserved14 s
  | .reserved15 => Sys2Proof.Machine.execReserved15 s
  | .reserved16 => Sys2Proof.Machine.execReserved16 s
  | .reserved17 => Sys2Proof.Machine.execReserved17 s
  | .reserved18 => Sys2Proof.Machine.execReserved18 s
  | .reserved19 => Sys2Proof.Machine.execReserved19 s
  | .reserved1A => Sys2Proof.Machine.execReserved1A s
  | .reserved1B => Sys2Proof.Machine.execReserved1B s
  | .reserved1C => Sys2Proof.Machine.execReserved1C s
  | .reserved1D => Sys2Proof.Machine.execReserved1D s
  | .reserved1E => Sys2Proof.Machine.execReserved1E s
  | .reserved1F => Sys2Proof.Machine.execReserved1F s

end Sys2Proof.Machine
end

