-- ==== Sys2Proof/Decode.lean ====
section
/-! DEFINITION. The decoder and the encoder of the 69-bit command word (spec/30_encoding.md R70 to R73, R77), and
the command as nine bytes, which is how the host's table words reach the decoder (log entry 6). -/

namespace Sys2Proof

/-! ## Fields of a command word (R70, R71) -/

/-- `op = cmd[68:64]` (R70). -/
def opField (w : Command) : BitVec 5 := w.extractLsb' 64 5

/-- `a1 = cmd[63:32]` (R70). -/
def argA1 (w : Command) : BitVec 32 := w.extractLsb' 32 32

/-- `a0 = cmd[31:0]` (R70). -/
def argA0 (w : Command) : BitVec 32 := w.extractLsb' 0 32

/-- `ratio = a1[7:0]`, format FR (R71). -/
def argRatio (w : Command) : BitVec 8 := (argA1 w).extractLsb' 0 8

/-- `level = a0[7:0]`, format L, and `k = a0[7:0]`, format D (R71). -/
def argLevel (w : Command) : BitVec 8 := (argA0 w).extractLsb' 0 8

/-- `mask = a1[31:16]`, format D (R71). -/
def argMask (w : Command) : BitVec 16 := (argA1 w).extractLsb' 16 16

/-- `value = a1[15:0]`, format D (R71). -/
def argValue (w : Command) : BitVec 16 := (argA1 w).extractLsb' 0 16

/-! ## The decoder (R73) -/

/-- The operation of a command word. Every value of the 5-bit `op` is in the opcode map (R73), so every word
decodes; the last arm is `op = 0x1F`, the one value the arms above it leave. -/
def decode (w : Command) : Instr :=
  match (opField w).toNat with
  | 0x00 => .reserved00
  | 0x01 => .classify (argA0 w)
  | 0x02 => .synth (argA0 w) (argRatio w)
  | 0x03 => .quantize (argA0 w) (argA1 w)
  | 0x04 => .enterTx (argA0 w)
  | 0x05 => .enterRx (argA0 w)
  | 0x06 => .setOffsetHz (argA0 w)
  | 0x07 => .setOffsetPpm (argA0 w)
  | 0x08 => .readSq
  | 0x09 => .detect
  | 0x0A => .agc
  | 0x0B => .smeter
  | 0x0C => .setSql (argLevel w)
  | 0x0D => .setGain (argLevel w)
  | 0x0E => .dynWrite (argLevel w) (argMask w) (argValue w)
  | 0x0F => .isError
  | 0x10 => .chipReset
  | 0x11 => .tick
  | 0x12 => .reserved12
  | 0x13 => .reserved13
  | 0x14 => .reserved14
  | 0x15 => .reserved15
  | 0x16 => .reserved16
  | 0x17 => .reserved17
  | 0x18 => .reserved18
  | 0x19 => .reserved19
  | 0x1A => .reserved1A
  | 0x1B => .reserved1B
  | 0x1C => .reserved1C
  | 0x1D => .reserved1D
  | 0x1E => .reserved1E
  | _    => .reserved1F

/-! ## The encoder (R70, R71) -/

/-- The command word with the three fields given: `{op, a1, a0}` (R70). -/
def mkCommand (op : BitVec 5) (a1 a0 : BitVec 32) : Command := op ++ a1 ++ a0

/-- An 8-bit operand in the low bits of its 32-bit field (R71). -/
def zeroExt8 (b : BitVec 8) : BitVec 32 := b.setWidth 32

/-- The operation code of an instruction (R73). -/
def opcode : Instr → BitVec 5
  | .reserved00 => 0x00
  | .classify _ => 0x01
  | .synth _ _ => 0x02
  | .quantize _ _ => 0x03
  | .enterTx _ => 0x04
  | .enterRx _ => 0x05
  | .setOffsetHz _ => 0x06
  | .setOffsetPpm _ => 0x07
  | .readSq => 0x08
  | .detect => 0x09
  | .agc => 0x0A
  | .smeter => 0x0B
  | .setSql _ => 0x0C
  | .setGain _ => 0x0D
  | .dynWrite _ _ _ => 0x0E
  | .isError => 0x0F
  | .chipReset => 0x10
  | .tick => 0x11
  | .reserved12 => 0x12
  | .reserved13 => 0x13
  | .reserved14 => 0x14
  | .reserved15 => 0x15
  | .reserved16 => 0x16
  | .reserved17 => 0x17
  | .reserved18 => 0x18
  | .reserved19 => 0x19
  | .reserved1A => 0x1A
  | .reserved1B => 0x1B
  | .reserved1C => 0x1C
  | .reserved1D => 0x1D
  | .reserved1E => 0x1E
  | .reserved1F => 0x1F

/-- The command word of an instruction, with every ignored bit 0 (R70 to R73). -/
def encode (i : Instr) : Command :=
  match i with
  | .reserved00 => mkCommand 0x00 0 0
  | .classify f => mkCommand 0x01 0 f
  | .synth t r => mkCommand 0x02 (zeroExt8 r) t
  | .quantize f st => mkCommand 0x03 st f
  | .enterTx f => mkCommand 0x04 0 f
  | .enterRx f => mkCommand 0x05 0 f
  | .setOffsetHz v => mkCommand 0x06 0 v
  | .setOffsetPpm v => mkCommand 0x07 0 v
  | .readSq => mkCommand 0x08 0 0
  | .detect => mkCommand 0x09 0 0
  | .agc => mkCommand 0x0A 0 0
  | .smeter => mkCommand 0x0B 0 0
  | .setSql l => mkCommand 0x0C 0 (zeroExt8 l)
  | .setGain l => mkCommand 0x0D 0 (zeroExt8 l)
  | .dynWrite k m v => mkCommand 0x0E (m ++ v) (zeroExt8 k)
  | .isError => mkCommand 0x0F 0 0
  | .chipReset => mkCommand 0x10 0 0
  | .tick => mkCommand 0x11 0 0
  | .reserved12 => mkCommand 0x12 0 0
  | .reserved13 => mkCommand 0x13 0 0
  | .reserved14 => mkCommand 0x14 0 0
  | .reserved15 => mkCommand 0x15 0 0
  | .reserved16 => mkCommand 0x16 0 0
  | .reserved17 => mkCommand 0x17 0 0
  | .reserved18 => mkCommand 0x18 0 0
  | .reserved19 => mkCommand 0x19 0 0
  | .reserved1A => mkCommand 0x1A 0 0
  | .reserved1B => mkCommand 0x1B 0 0
  | .reserved1C => mkCommand 0x1C 0 0
  | .reserved1D => mkCommand 0x1D 0 0
  | .reserved1E => mkCommand 0x1E 0 0
  | .reserved1F => mkCommand 0x1F 0 0

/-! ## Commands as bytes (log entry 6) -/

/-- Why a byte string is no command. -/
inductive DecodeError where
  /-- The string does not have the nine bytes of one 69-bit word. -/
  | wrongLength
  /-- A bit above the 69 of a command word is set. -/
  | strayBits
deriving DecidableEq, Repr

/-- DESIGN CHOICE (log entry 6): the bytes of a command, `op` first (in bits 4:0 of the first byte), then `a0` and
`a1`, each with its least significant byte first. -/
def commandOfBytes (bs : List Byte) : Except DecodeError Command :=
  match bs with
  | [o, b0, b1, b2, b3, c0, c1, c2, c3] =>
    if o.extractLsb' 5 3 = 0 then
      .ok (mkCommand (o.extractLsb' 0 5) (c3 ++ c2 ++ c1 ++ c0) (b3 ++ b2 ++ b1 ++ b0))
    else .error .strayBits
  | _ => .error .wrongLength

/-- The decoder over bytes: total, rejecting by name what is no command. -/
def decodeBytes (bs : List Byte) : Except DecodeError Instr := (commandOfBytes bs).map decode

/-- The bytes of a table word: its low `nbits` bits, least significant byte first, filled with zeros up to the nine
bytes of a command. opcode_table.json numbers the bits of `op` from 0, so the first byte holds `op`. -/
def tableBytes (nbits w : Nat) : List Byte :=
  (List.range (max 9 ((nbits + 7) / 8))).map fun i => BitVec.ofNat 8 ((w % 2 ^ nbits) >>> (8 * i))

/-- The instruction that the decoder reads from a table word, none where it is rejected. -/
def decodeTableWord (nbits w : Nat) : Option Instr := (decodeBytes (tableBytes nbits w)).toOption

end Sys2Proof
end

