-- ==== Sys2Proof/Machine/Fetch.lean ====
section
/-! DEFINITION. How the block takes its next command from the command port (spec/30_encoding.md R70, R76). It has no
program counter and no instruction memory (spec/10_state.md R21, spec/20_memory.md R51). -/

namespace Sys2Proof.Machine

open Sys2Proof

/-- The command the host presents next, decoded, and the state once it is accepted; none while no command is
presented (R76; log entry 4). -/
def fetch (s : State) : Option (Instr × State) :=
  match s.cmds with
  | [] => none
  | w :: rest => some (decode w, { s with cmds := rest })

/-- `s` with the command `w` presented before all others. -/
def present (w : Command) (s : State) : State := { s with cmds := w :: s.cmds }

end Sys2Proof.Machine
end

