-- ==== Sys2Proof/WellFormed.lean ====
section
/-! DEFINITION. The well-formedness check of a configuration (spec/30_encoding.md R83 to R86, spec/20_memory.md
R56, the table of OPEN parameters of spec/92_eei_decisions.md), one definition per constraint, and the duty of a
conforming host on DYN_WRITE (spec/42_signal.md R175). Instructions need no check: every term of `Instr` is legal
(R72, R77). -/

namespace Sys2Proof

/-- Two bit fields, each given by its low bit and its width, share no bit. -/
def fieldsDisjoint (lsb₁ w₁ lsb₂ w₂ : Nat) : Bool :=
  w₁ == 0 || w₂ == 0 || lsb₁ + w₁ ≤ lsb₂ || lsb₂ + w₂ ≤ lsb₁

namespace Cfg

/-- The frequency registers' addresses (R56). -/
def freqAddrs (c : Cfg) : List RegAddr := [c.regDiv, c.regTwh, c.regTwl]

/-- `REG_DIV`, `REG_TWH` and `REG_TWL` are pairwise distinct (R56). -/
def wfFreqDistinct (c : Cfg) : Bool := c.freqAddrs.Nodup

/-- `DYN_ADDR` entries are pairwise distinct (R56). -/
def wfDynDistinct (c : Cfg) : Bool := (c.dynRegs.map DynReg.addr).Nodup

/-- No `DYN_ADDR` entry equals a frequency register (R56). -/
def wfDynNotFreq (c : Cfg) : Bool := c.dynRegs.all fun d => !c.freqAddrs.contains d.addr

/-- `REG_SQ` is none of the frequency registers (R56). -/
def wfSqNotFreq (c : Cfg) : Bool := !c.freqAddrs.contains c.regSq

/-- `N_DYN` ≥ 1 (R6, D34). -/
def wfNDyn (c : Cfg) : Bool := 1 ≤ c.nDyn

/-- `RSSI_LSB` ≤ 8, `SNR_LSB` ≤ 10, and the two fields do not overlap (R83). -/
def wfSqFields (c : Cfg) : Bool := c.rssiLsb ≤ 8 && c.snrLsb ≤ 10 && fieldsDisjoint c.rssiLsb 8 c.snrLsb 6

/-- `GAIN_K` < `N_DYN` and `GAIN_LSB` ≤ 13 (R84). -/
def wfGain (c : Cfg) : Bool := c.gainK < c.nDyn && c.gainLsb ≤ 13

/-- `SQL_K` < `N_DYN` and `SQL_LSB + SQL_WIDTH` ≤ 16 (R85). -/
def wfSql (c : Cfg) : Bool := c.sqlK < c.nDyn && c.sqlLsb + c.sqlWidth ≤ 16

/-- `SQL_ENC(i)` < 2^`SQL_WIDTH` (R85). -/
def wfSqlEnc (c : Cfg) : Bool := c.sqlEnc.toList.all fun e => e.toNat < 2 ^ c.sqlWidth

/-- The gain field and the squelch field do not overlap when `GAIN_K = SQL_K` (R86). -/
def wfDisjoint (c : Cfg) : Bool := c.gainK != c.sqlK || fieldsDisjoint c.gainLsb 3 c.sqlLsb c.sqlWidth

/-- The gain field covers no bit that DYN_WRITE is used to own (R86; log entry 11). -/
def wfGainNotOwned (c : Cfg) : Bool := c.dynOwned c.gainK &&& Machine.fieldMask c.gainLsb 3 == 0

/-- The squelch field covers no bit that DYN_WRITE is used to own (R86; log entry 11). -/
def wfSqlNotOwned (c : Cfg) : Bool := c.dynOwned c.sqlK &&& Machine.fieldMask c.sqlLsb c.sqlWidth == 0

/-- Every `SQL_TABLE` entry is in 60..127 (D23). -/
def wfTableRange (c : Cfg) : Bool := c.sqlTable.toList.all fun t => 60 ≤ t.toNat && t.toNat ≤ 127

/-- `SQL_TABLE` is non-decreasing (D23). -/
def wfTableSorted (c : Cfg) : Bool := c.sqlTable.toList.Pairwise fun a b => a.toNat ≤ b.toNat

/-- `SQL_RESET` is in 0..9 (D26). -/
def wfSqlReset (c : Cfg) : Bool := c.sqlReset.toNat ≤ 9

/-- `ERR_THRESHOLD` is in 1..255 (D15). -/
def wfErr (c : Cfg) : Bool := 1 ≤ c.errThreshold && c.errThreshold ≤ 255

/-- The well-formedness check: every constraint that the spec puts on a configuration. -/
def wf (c : Cfg) : Bool :=
  c.wfFreqDistinct && c.wfDynDistinct && c.wfDynNotFreq && c.wfSqNotFreq && c.wfNDyn && c.wfSqFields && c.wfGain &&
    c.wfSql && c.wfSqlEnc && c.wfDisjoint && c.wfTableRange && c.wfTableSorted && c.wfSqlReset && c.wfErr &&
    c.wfGainNotOwned && c.wfSqlNotOwned

end Cfg

/-- A DYN_WRITE of a conforming host writes bits that DYN_WRITE owns and no others, so under a well-formed configuration
it leaves the gain field and the squelch field alone (R86, R175; 93_implementation_defined.md item 13; log entry 11). The
block runs a DYN_WRITE that does not conform literally; only claims about conforming hosts use this. -/
def dynWriteConforms (c : Cfg) (k : BitVec 8) (mask : RegValue) : Bool := mask &&& ~~~c.dynOwned k.toNat == 0

end Sys2Proof
end

