-- ==== Sys2Proof/Machine/Step.lean ====
section
/-! DEFINITION. One step: one command from its acceptance to its response (spec/30_encoding.md R76). -/

namespace Sys2Proof.Machine

open Sys2Proof

/-- One step: the block accepts the next command and runs it. With no command presented the block is idle and all
state survives (spec/60_exceptions.md R231). Under a configuration that breaks a constraint no command is run (R86;
log entry 12). -/
def step (s : State) : Host.Outcome State Fault Refusal :=
  match fetch s with
  | none => .next s
  | some (i, s') => if s.cfg.wf then exec i s' else .refused .illFormedConfig

/-- `s` with the command of a table word presented on the command port, ahead of any other; `s` itself where the word
is no command (log entries 4 and 6). -/
def State.withFetchWord (s : State) (nbits w : Nat) : State :=
  match commandOfBytes (tableBytes nbits w) with
  | .ok c => present c s
  | .error _ => s

end Sys2Proof.Machine
end

