-- ==== Sys2Proof/Machine/Assembler.lean ====
section
/-! DEFINITION. The assembler syntax of spec/30_encoding.md R78: one operation a line, to its command word, and the
written form `op:a1:a0` of a word. A text front end: no step uses it. What R78 leaves open in the lexical form is log
entry 15. -/

namespace Sys2Proof.Machine

open Sys2Proof

/-- Why a line is no operation. -/
inductive AsmError where
  /-- The first word is no mnemonic of R78. -/
  | unknownMnemonic
  /-- The mnemonic takes another number of operands. -/
  | operandCount
  /-- An operand is no number of the form R78 gives it. -/
  | badNumber
  /-- A frequency in MHz is no exact number of Hz, or a ppm value has more than three fractional digits. -/
  | notExact
  /-- The number does not fit its operand field (R71, R72). -/
  | outOfRange
  /-- RETUNE where the current offset is no whole number of Hz. -/
  | offsetNotWholeHz
deriving DecidableEq, Repr

/-! ## Words of a line -/

/-- A line without its leading spaces. -/
def dropSpaces (l : List Char) : List Char := l.dropWhile (· == ' ')

/-- A text without its leading and trailing spaces. -/
def trimSpaces (l : List Char) : List Char := (dropSpaces (dropSpaces l).reverse).reverse

/-- The operands of a text, which commas separate; a text of spaces has none. -/
def splitOperands (l : List Char) : List (List Char) :=
  if dropSpaces l = [] then []
  else (l.splitOn ',').map trimSpaces

/-- The value of a decimal digit. -/
def decDigit (c : Char) : Option Nat := if '0' ≤ c ∧ c ≤ '9' then some (c.toNat - '0'.toNat) else none

/-- The value of a hexadecimal digit. -/
def hexDigit (c : Char) : Option Nat :=
  if 'A' ≤ c ∧ c ≤ 'F' then some (c.toNat - 'A'.toNat + 10)
  else if 'a' ≤ c ∧ c ≤ 'f' then some (c.toNat - 'a'.toNat + 10)
  else decDigit c

/-- Digits to a number in a base, most significant first, from `acc`. -/
def digitsFrom (digit : Char → Option Nat) (base : Nat) : Nat → List Char → Option Nat
  | acc, [] => some acc
  | acc, c :: cs =>
    match digit c with
    | some d => digitsFrom digit base (acc * base + d) cs
    | none => none

/-- A number of one digit or more, decimal, or hexadecimal after the prefix `0x` (R7). -/
def parseNat (l : List Char) : Option Nat :=
  match l with
  | [] => none
  | '0' :: 'x' :: [] => none
  | '0' :: 'x' :: cs => digitsFrom hexDigit 16 0 cs
  | cs => digitsFrom decDigit 10 0 cs

/-- A decimal integer with an optional `-` (R78). -/
def parseInt (l : List Char) : Option Int :=
  match l with
  | [] => none
  | '-' :: [] => none
  | '-' :: cs => (digitsFrom decDigit 10 0 cs).map fun n => -(n : Int)
  | cs => (digitsFrom decDigit 10 0 cs).map Int.ofNat

/-- A decimal fraction without sign: its digits as one number, and how many of them stand after the point. -/
def parseFraction (l : List Char) : Option (Nat × Nat) :=
  match l.splitOn '.' with
  | [a] => if a = [] then none else (digitsFrom decDigit 10 0 a).map fun n => (n, 0)
  | [a, b] => if a = [] ∨ b = [] then none else (digitsFrom decDigit 10 0 (a ++ b)).map fun n => (n, b.length)
  | _ => none

/-! ## Operands -/

/-- A number as an unsigned operand of w bits. -/
def asUnsigned (w : Nat) (n : Nat) : Except AsmError (BitVec w) :=
  if n < 2 ^ w then .ok (BitVec.ofNat w n) else .error .outOfRange

/-- A number as a two's-complement operand of 32 bits. -/
def asSigned32 (n : Int) : Except AsmError (BitVec 32) :=
  if -(2 ^ 31) ≤ n ∧ n < 2 ^ 31 then .ok (BitVec.ofInt 32 n) else .error .outOfRange

/-- An unsigned operand. -/
def unsignedArg (w : Nat) (l : List Char) : Except AsmError (BitVec w) :=
  match parseNat l with
  | some n => asUnsigned w n
  | none => .error .badNumber

/-- A signed operand. -/
def signedArg (l : List Char) : Except AsmError (BitVec 32) :=
  match parseInt l with
  | some n => asSigned32 n
  | none => .error .badNumber

/-- A frequency of `digits / 10^frac` MHz in Hz, which must be a whole number. -/
def freqOfMHz (digits frac : Nat) : Except AsmError Hz :=
  if (digits * 10 ^ 6) % 10 ^ frac = 0 then asUnsigned 32 (digits * 10 ^ 6 / 10 ^ frac) else .error .notExact

/-- A frequency: Hz as a decimal integer, or MHz with the suffix `MHz` (R78). -/
def freqArg (l : List Char) : Except AsmError Hz :=
  match l.reverse with
  | 'z' :: 'H' :: 'M' :: rev =>
    match parseFraction rev.reverse with
    | some (digits, frac) => freqOfMHz digits frac
    | none => .error .badNumber
  | _ =>
    match (if l = [] then none else digitsFrom decDigit 10 0 l) with
    | some n => asUnsigned 32 n
    | none => .error .badNumber

/-- `round(ppm * 1000)` of a ppm value with at most three fractional digits, as milli-ppm (R78). -/
def milliPpm (neg : Bool) (digits frac : Nat) : Except AsmError (BitVec 32) :=
  if 3 < frac then .error .notExact
  else asSigned32 ((if neg then -1 else 1) * ((digits * 10 ^ (3 - frac) : Nat) : Int))

/-- A ppm value with an optional `-` (R78). -/
def ppmArg (l : List Char) : Except AsmError (BitVec 32) :=
  match l with
  | '-' :: cs =>
    match parseFraction cs with
    | some (digits, frac) => milliPpm true digits frac
    | none => .error .badNumber
  | cs =>
    match parseFraction cs with
    | some (digits, frac) => milliPpm false digits frac
    | none => .error .badNumber

/-! ## Lines -/

/-- The operands of a line that has none. -/
def noOperand (i : Instr) (ops : List (List Char)) : Except AsmError Instr :=
  match ops with
  | [] => .ok i
  | _ => .error .operandCount

/-- The operand of a line that has one. -/
def oneOperand (f : List Char → Except AsmError Instr) (ops : List (List Char)) : Except AsmError Instr :=
  match ops with
  | [a] => f a
  | _ => .error .operandCount

/-- The operands of a line that has two. -/
def twoOperands (f : List Char → List Char → Except AsmError Instr) (ops : List (List Char)) : Except AsmError Instr :=
  match ops with
  | [a, b] => f a b
  | _ => .error .operandCount

/-- The operands of a line that has three. -/
def threeOperands (f : List Char → List Char → List Char → Except AsmError Instr) (ops : List (List Char)) :
    Except AsmError Instr :=
  match ops with
  | [a, b, c] => f a b c
  | _ => .error .operandCount

/-- `RETUNE`: SET_OFFSET_HZ with the current offset, legal when that is a whole number of Hz (R78). -/
def retuneLine (offset : BitVec 64) : Except AsmError Instr :=
  if offset.toInt % nhzPerHz = 0 then (asSigned32 (offset.toInt / nhzPerHz)).map .setOffsetHz
  else .error .offsetNotWholeHz

/-- The operation of a mnemonic and its operands (R78). -/
def assembleParts (offset : BitVec 64) (mnemonic : List Char) (ops : List (List Char)) : Except AsmError Instr :=
  if mnemonic = "CLASSIFY".toList then oneOperand (fun a => (freqArg a).map .classify) ops
  else if mnemonic = "SYNTH".toList then
    twoOperands (fun a b => do return .synth (← freqArg a) (← unsignedArg 8 b)) ops
  else if mnemonic = "QUANTIZE".toList then
    twoOperands (fun a b => do return .quantize (← freqArg a) (← signedArg b)) ops
  else if mnemonic = "ENTER_TX".toList then oneOperand (fun a => (freqArg a).map .enterTx) ops
  else if mnemonic = "ENTER_RX".toList then oneOperand (fun a => (freqArg a).map .enterRx) ops
  else if mnemonic = "SET_OFFSET_HZ".toList then oneOperand (fun a => (signedArg a).map .setOffsetHz) ops
  else if mnemonic = "SET_OFFSET_PPM".toList then oneOperand (fun a => (signedArg a).map .setOffsetPpm) ops
  else if mnemonic = "SET_OFFSET_PPM_F".toList then oneOperand (fun a => (ppmArg a).map .setOffsetPpm) ops
  else if mnemonic = "RETUNE".toList then
    match ops with
    | [] => retuneLine offset
    | _ => .error .operandCount
  else if mnemonic = "SET_SQL".toList then oneOperand (fun a => (unsignedArg 8 a).map .setSql) ops
  else if mnemonic = "SET_GAIN".toList then oneOperand (fun a => (unsignedArg 8 a).map .setGain) ops
  else if mnemonic = "DYN_WRITE".toList then
    threeOperands
      (fun a b c => do return .dynWrite (← unsignedArg 8 a) (← unsignedArg 16 b) (← unsignedArg 16 c)) ops
  else if mnemonic = "READ_SQ".toList then noOperand .readSq ops
  else if mnemonic = "DETECT".toList then noOperand .detect ops
  else if mnemonic = "AGC".toList then noOperand .agc ops
  else if mnemonic = "SMETER".toList then noOperand .smeter ops
  else if mnemonic = "IS_ERROR".toList then noOperand .isError ops
  else if mnemonic = "CHIP_RESET".toList then noOperand .chipReset ops
  else if mnemonic = "TICK".toList then noOperand .tick ops
  else .error .unknownMnemonic

/-- The operation of a line, `MNEMONIC [operand[, operand]]`; `offset` is the current offset, which RETUNE reads (R78). -/
def assembleInstr (offset : BitVec 64) (line : List Char) : Except AsmError Instr :=
  assembleParts offset ((dropSpaces line).takeWhile (· != ' '))
    (splitOperands ((dropSpaces line).dropWhile (· != ' ')))

/-- The command word of a line (R78). -/
def assemble (offset : BitVec 64) (line : List Char) : Except AsmError Command :=
  (assembleInstr offset line).map encode

/-- A hexadecimal digit in capitals. -/
def hexChar (n : Nat) : Char := "0123456789ABCDEF".toList.getD n '0'

/-- The `digits` lowest hexadecimal digits of a number, most significant first. -/
def hexDigits (digits n : Nat) : List Char :=
  (List.range digits).reverse.map fun i => hexChar (n >>> (4 * i) % 16)

/-- The written form of a word: `op:a1:a0` in hexadecimal (R78). -/
def writtenForm (w : Command) : List Char :=
  hexDigits 2 (opField w).toNat ++ [':'] ++ hexDigits 8 (argA1 w).toNat ++ [':'] ++ hexDigits 8 (argA0 w).toNat

end Sys2Proof.Machine
end

