-- ==== Sys2Proof/Safety.lean ====
section
/-! DEFINITION. What a good state and a safe run are (the invariants of spec/10_state.md R22 to R38). -/

namespace Sys2Proof.Machine

open Sys2Proof

/-- The invariants the spec states or implies of every state a run reaches. -/
structure State.Inv (s : State) : Prop where
  /-- The configuration meets its constraints (R86, R243). -/
  cfgWf : s.cfg.wf = true
  /-- The cache has one entry per dynamic register (R29). -/
  dynLength : s.dyn.length = s.cfg.nDyn
  /-- `-50 000 * 10^9 ≤ offset ≤ 50 000 * 10^9` (R27). -/
  offsetBound : -(50000 * 10 ^ 9) ≤ s.offset.toInt ∧ s.offset.toInt ≤ 50000 * 10 ^ 9
  /-- `sqlIndex ≤ 9` (R31). -/
  sqlIndexBound : s.sqlIndex.toNat ≤ 9
  /-- `0 ≤ filt ≤ 255` (R35). -/
  filtBound : 0 ≤ s.filt ∧ s.filt ≤ 255
  /-- `smeter` holds 0..10 (R37). -/
  smeterBound : s.smeter.toNat ≤ 10
  /-- The mode-switch line stands at the level of the mode (R22, R23). -/
  lineAgrees : s.modeLine = lineLevel s.cfg s.isTx
  /-- The last user frequency is that of the active mode (R24 to R26, R133). -/
  lastIsActive : s.lastUserFreq = s.activeFreq
  /-- TX is entered only with a frequency (R22, R24, R133). -/
  txTuned : s.isTx = true → s.txFreq ≠ none

/-! ## Words of the claims -/

/-- An access that the transport answered with a failure (R11). -/
def BusEvent.failed : BusEvent → Bool
  | .write _ _ ok => !ok
  | .read _ _ ok => !ok
  | .line _ => false
  | .settle => false

/-- A MemRead event (R10). -/
def BusEvent.isRead : BusEvent → Bool
  | .read _ _ _ => true
  | .write _ _ _ => false
  | .line _ => false
  | .settle => false

/-- A register access: a MemWrite or a MemRead, not a line or settle event (R10, R251). -/
def BusEvent.isAccess : BusEvent → Bool
  | .write _ _ _ => true
  | .read _ _ _ => true
  | .line _ => false
  | .settle => false

/-- The value an event writes to the register at `a`, if it is a MemWrite to it (R10). -/
def BusEvent.writtenTo (a : RegAddr) : BusEvent → Option RegValue
  | .write b v _ => if b = a then some v else none
  | .read _ _ _ => none
  | .line _ => none
  | .settle => none

/-- What the block asked of the bus, without the transport's answer: the event with its `ok` taken for true. -/
def BusEvent.request : BusEvent → BusEvent
  | .write a v _ => .write a v true
  | .read a v _ => .read a v true
  | .line l => .line l
  | .settle => .settle

/-- How many of the events are failed accesses. -/
def failures (es : List BusEvent) : Nat := es.countP BusEvent.failed

/-- The value of the last MemWrite to the register at `a`, none if there is none. -/
def lastWritten (a : RegAddr) (es : List BusEvent) : Option RegValue := (es.filterMap (BusEvent.writtenTo a)).getLast?

/-- No event writes a frequency register. -/
def NoFreqWrite (c : Cfg) (es : List BusEvent) : Prop := ∀ e ∈ es, ∀ a ∈ c.freqAddrs, e.writtenTo a = none

/-- No static block writes a frequency register. The spec puts no such constraint on the blocks. -/
def BlocksAvoidFreq (c : Cfg) : Prop := ∀ w ∈ c.txBlock ++ c.rxBlock ++ c.commonBlock, w.addr ∉ c.freqAddrs

/-- The cache is written through: whatever a dynamic register was last written with is what the cache holds (R62). -/
def State.CacheWritten (s : State) : Prop :=
  ∀ k v, k < s.cfg.nDyn → lastWritten (dynAddr s.cfg k) s.trace = some v → v = s.dynAt k

/-- The band table by the frequencies each ratio is given to, in nHz: the rows of R100 with the overlap resolved as
R101 and R102 say (ratio 44 on [35, 43) MHz). -/
def BandRow (a : Int) (ratio : Nat) (code : RegValue) : Prop :=
  (ratio = 4 ∧ code = 0x0002 ∧ 384 * 10 ^ 15 < a ∧ a ≤ 512 * 10 ^ 15) ∨
  (ratio = 12 ∧ code = 0x2004 ∧ 128 * 10 ^ 15 ≤ a ∧ a ≤ 170 * 10 ^ 15) ∨
  (ratio = 36 ∧ code = 0x8008 ∧ 43 * 10 ^ 15 ≤ a ∧ a ≤ 57 * 10 ^ 15) ∨
  (ratio = 44 ∧ code = 0xA00A ∧ 35 * 10 ^ 15 ≤ a ∧ a < 43 * 10 ^ 15) ∨
  (ratio = 64 ∧ code = 0xC00F ∧ 24 * 10 ^ 15 ≤ a ∧ a ≤ 32 * 10 ^ 15)

/-- The nearest integer to `t * r * 2^26 / (85 * 10^15)`, ties upward, by integer division: the tuning word of a target
of t ≥ 0 nHz (R103). -/
def nearestWord (t : Int) (r : Nat) : Int := (2 * (t * r * 2 ^ 26) + 85 * 10 ^ 15) / (2 * (85 * 10 ^ 15))

/-- The three frequency-register writes for a target, before their answers (R82, R132). -/
def tripleFor (c : Cfg) (code : RegValue) (target : Int) (ratio : Nat) : List RegWrite :=
  [⟨c.regDiv, code⟩, ⟨c.regTwh, (BitVec.ofInt 32 (nearestWord target ratio)).extractLsb' 16 16⟩,
    ⟨c.regTwl, (BitVec.ofInt 32 (nearestWord target ratio)).extractLsb' 0 16⟩]

/-- The events of a list of writes with their answers. -/
def eventsOf (ws : List RegWrite) (oks : List Bool) : List BusEvent :=
  List.zipWith (fun w ok => BusEvent.write w.addr w.value ok) ws oks

/-- `oks` are possible answers to n accesses: one each, and the listed ones where State lists any (R11; log entry 2). -/
def AnswersFor (s : State) (n : Nat) (oks : List Bool) : Prop :=
  oks.length = n ∧ ∀ j a, j < n → s.answers[j]? = some a → oks[j]? = some a.ok

/-- The state after accesses with the given events and answers, nothing else changed: the events on the trace, the
failures counted, the answers used up (R10, R11, R38; log entry 2). -/
def afterAccesses (es : List BusEvent) (oks : List Bool) (s : State) : State :=
  { s with
    trace := s.trace ++ es
    errCount := BitVec.ofNat 8 (min (s.errCount.toNat + oks.count false) 255)
    answers := s.answers.drop oks.length
    draws := s.draws + (oks.length - s.answers.length) }

/-- R140: the frequency-register writes on the trace. Either no Enter has succeeded and there are none, or the last ones are
one run of REG_DIV, REG_TWH, REG_TWL with the values of the mode, the last user frequency and an offset in the bound of
R27: the one in force at the last successful Enter, which need not be the current one (90_conflicts.md C12). -/
def State.TunedTrace (s : State) : Prop :=
  (s.lastUserFreq = none ∧ NoFreqWrite s.cfg s.trace) ∨
  ∃ pre post f off r code oks, s.lastUserFreq = some f ∧ -(50000 * 10 ^ 9) ≤ off ∧ off ≤ 50000 * 10 ^ 9 ∧
    BandRow (f.toNat * 10 ^ 9 + off) r code ∧ oks.length = 3 ∧
    s.trace = pre ++ eventsOf (tripleFor s.cfg code
      (f.toNat * 10 ^ 9 + off - if s.isTx then 0 else 137000 * 10 ^ 9) r) oks ++ post ∧
    NoFreqWrite s.cfg post

/-! ## Safe runs -/

/-- A run of k steps from `s` is safe: it ends in a state, neither in a fault nor in a refusal, and that state is
good. -/
def SafeRun (k : Nat) (s : State) : Prop := ∃ t, Sys2Proof.core.run k s = .next t ∧ t.Inv

end Sys2Proof.Machine
end

