-- ==== Sys2Proof/Certificates/Slice0/Obligations.lean ====
section
/-! DEFINITION. The statements for the provers, from the numbered rules of spec/. -/

open Sys2Proof Sys2Proof.Machine

/-! ## Encoding -/

/-- R70 to R73: decoding the encoding of any operation, with any operands, gives it back. -/
def Obligations.DecodeOfEncode : Prop :=
  ∀ i : Instr, decode (encode i) = i

/-- R70, R73: the operation that a command word decodes to is the one whose code stands in bits 68:64, and its encoding
has that code there. -/
def Obligations.OpcodeSelectsOperation : Prop :=
  ∀ w : Command, opcode (decode w) = w.extractLsb' 64 5 ∧ (encode (decode w)).extractLsb' 64 5 = w.extractLsb' 64 5

/-- R71: a field the format does not name is ignored. Format N ignores both arguments; F and S ignore a1; FR reads
a1[7:0]; L reads a0[7:0] only; D reads a0[7:0] and all of a1. -/
def Obligations.IgnoredFieldsHaveNoEffect : Prop :=
  ∀ (op : BitVec 5) (a1 a0 b1 b0 : BitVec 32),
    ((op = 0 ∨ op ∈ [0x08, 0x09, 0x0A, 0x0B] ∨ 0x0F ≤ op.toNat) →
      decode (op ++ a1 ++ a0) = decode (op ++ b1 ++ b0)) ∧
    (op ∈ [0x01, 0x04, 0x05, 0x06, 0x07] → decode (op ++ a1 ++ a0) = decode (op ++ b1 ++ a0)) ∧
    (op = 0x02 → a1.extractLsb' 0 8 = b1.extractLsb' 0 8 → decode (op ++ a1 ++ a0) = decode (op ++ b1 ++ a0)) ∧
    (op ∈ [0x0C, 0x0D] → a0.extractLsb' 0 8 = b0.extractLsb' 0 8 →
      decode (op ++ a1 ++ a0) = decode (op ++ b1 ++ b0)) ∧
    (op = 0x0E → a0.extractLsb' 0 8 = b0.extractLsb' 0 8 → decode (op ++ a1 ++ a0) = decode (op ++ a1 ++ b0))

/-- spec/95_test_vectors.md section 3.1: a few written words and what they decode to. -/
def Obligations.WrittenWordsDecode : Prop :=
  decode (0x0100000000#37 ++ 0x08BBB7C0#32) = .classify 146520000 ∧
  decode (0x02FFFFFF0C#37 ++ 0x08BBB7C0#32) = .synth 146520000 12 ∧
  decode (0x03FFFFFFFB#37 ++ 0x08BBB7C0#32) = .quantize 146520000 (-5) ∧
  decode (0x0600000000#37 ++ 0xFFFFFC18#32) = .setOffsetHz (-1000) ∧
  decode (0x0C00000000#37 ++ 0xFFFFFF03#32) = .setSql 3 ∧
  decode (0x0E001F0011#37 ++ 0x00000000#32) = .dynWrite 0 0x001F 0x0011 ∧
  decode (0x0912345678#37 ++ 0x9ABCDEF0#32) = .detect ∧
  decode (0x1200000000#37 ++ 0x00000000#32) = .reserved12

/-- R74, R75: the response word holds the status code in 98:96, r0 in 95:32 and r1 in 31:0, and the codes of the six
statuses are 0 to 5. -/
def Obligations.ResponseWordFields : Prop :=
  (∀ r : Response, r.word.extractLsb' 96 3 = r.status.code ∧ r.word.extractLsb' 32 64 = r.r0 ∧
    r.word.extractLsb' 0 32 = r.r1) ∧
  Status.ok.code = 0 ∧ Status.unsupported.code = 1 ∧ Status.noFreq.code = 2 ∧ Status.overflow.code = 3 ∧
    Status.illegal.code = 4 ∧ Status.badIndex.code = 5

/-- R78: the pseudo-operation RETUNE is legal exactly when the current offset is a whole number of Hz, and running it
in a good state leaves the offset as it is. The lexical form of the line is the model's choice (log entry 15). -/
def Obligations.RetuneLineKeepsOffset : Prop :=
  ∀ s : State, s.Inv →
    ((∃ i, assembleInstr s.offset "RETUNE".toList = .ok i) ↔ s.offset.toInt % 10 ^ 9 = 0) ∧
    (∀ i t, assembleInstr s.offset "RETUNE".toList = .ok i → exec i s = .next t → t.offset = s.offset)

/-! ## Steps and runs -/

/-- R76: a step takes the command the host presents and runs the operation it decodes to, on the state without that
command. That commands stand in State as a list is the model's choice (log entry 4). -/
def Obligations.StepRunsDecodedCommand : Prop :=
  ∀ (s : State) (w : Command) (rest : List Command), s.cfg.wf = true → s.cmds = w :: rest →
    step s = exec (decode w) { s with cmds := rest }

/-- R231, R86: with no command presented all state survives; under an ill-formed configuration no command runs. Both forms
are the model's choice (log entries 4 and 12). -/
def Obligations.StepIdleOrRefused : Prop :=
  ∀ s : State, (s.cmds = [] → step s = .next s) ∧
    (s.cmds ≠ [] → s.cfg.wf = false → step s = .refused .illFormedConfig)

/-- R220: every operation, from every state, ends with a response; the commands still to be presented and the
configuration are as they were. -/
def Obligations.EveryOperationResponds : Prop :=
  ∀ (i : Instr) (s : State), ∃ t r, exec i s = .next t ∧ t.rsp = some r ∧ t.cmds = s.cmds ∧ t.cfg = s.cfg

/-- R27, R29, R31, R35, R37 and R22 to R26: every step keeps the state invariants. -/
def Obligations.StepKeepsInvariants : Prop :=
  ∀ s t : State, s.Inv → step s = .next t → t.Inv

/-- R240: power-on under a well-formed configuration meets the invariants, the two of the trace (R62, R140) among them. That State.reset does so too rests on the
configuration of log entry 1. -/
def Obligations.PowerOnMeetsInvariants : Prop :=
  (∀ c : Cfg, c.wf = true → (State.powerOn c).Inv ∧ (State.powerOn c).CacheWritten ∧ (State.powerOn c).TunedTrace) ∧
    State.reset.Inv ∧ State.reset.CacheWritten ∧ State.reset.TunedTrace

/-- R220, R251: from a good state every run is safe, whatever the host presents and the transport answers, and each
step takes one command. That a good state has a well-formed configuration and that commands stand in a list are the
model's choices (log entries 12 and 4). -/
def Obligations.EveryRunIsSafe : Prop :=
  ∀ (s : State) (k : Nat), s.Inv → SafeRun k s ∧ ∀ t, Sys2Proof.core.run k s = .next t → t.cmds = s.cmds.drop k

/-- R240 and the reset values of R22 to R38 that the spec gives. -/
def Obligations.PowerOnValues : Prop :=
  ∀ c : Cfg, let s := State.powerOn c
    s.isTx = false ∧ s.modeLine = !c.modeTxLevel ∧ s.txFreq = none ∧ s.rxFreq = none ∧ s.lastUserFreq = none ∧
    s.offset.toInt = 0 ∧ s.rssi = 0 ∧ s.snr = 0 ∧ s.filt = 0 ∧ s.det = false ∧ s.smeter = 0 ∧ s.errCount = 0 ∧
    s.trace = [] ∧ s.sqlIndex = c.sqlReset ∧ s.dyn = c.dynRegs.map DynReg.reset

/-! ## Whole-machine rules -/

/-- R39: the trace is append-only, and nothing reads it: with another trace the operation does the same and appends the
same events. -/
def Obligations.TraceIsAppendOnly : Prop :=
  ∀ (i : Instr) (s t : State), exec i s = .next t → ∃ new, t.trace = s.trace ++ new ∧
    ∀ tr, exec i { s with trace := tr } = .next { t with trace := tr ++ new }

/-- R38, R11: `errCount` counts the failed accesses, saturating at 255, from 0 where the operation clears it first
(CHIP_RESET, and TICK with the flag set), from its old value elsewhere. -/
def Obligations.ErrCountCountsFailures : Prop :=
  ∀ (i : Instr) (s t : State), exec i s = .next t → ∃ new, t.trace = s.trace ++ new ∧
    t.errCount.toNat =
      min 255 ((if i = .chipReset ∨ (i = .tick ∧ s.cfg.errThreshold ≤ s.errCount.toNat) then 0 else s.errCount.toNat)
        + failures new)

/-- R50, R160, R171, R173 to R175, R203: which accesses each operation makes. -/
def Obligations.BusAccessesOfEachOperation : Prop :=
  ∀ (i : Instr) (s t : State), exec i s = .next t → ∃ new, t.trace = s.trace ++ new ∧
    (i ∉ [.readSq, .tick] → ∀ e ∈ new, e.isRead = false) ∧
    (i = .readSq → ∃ v ok, new = [.read s.cfg.regSq v ok]) ∧
    (i = .tick → ∃ v ok, new.filter BusEvent.isRead = [.read s.cfg.regSq v ok]) ∧
    (∀ l, i = .setSql l → ∃ v ok, new = [.write (dynAddr s.cfg s.cfg.sqlK) v ok]) ∧
    (∀ l, i = .setGain l → ∃ v ok, new = [.write (dynAddr s.cfg s.cfg.gainK) v ok]) ∧
    (∀ k m x, i = .dynWrite k m x → k.toNat < s.cfg.nDyn → ∃ v ok, new = [.write (dynAddr s.cfg k.toNat) v ok]) ∧
    (i = .agc → new = [] ∨ ∃ v ok, new = [.write (dynAddr s.cfg s.cfg.gainK) v ok]) ∧
    ((∃ f, i = .classify f) ∨ (∃ f r, i = .synth f r) ∨ (∃ f x, i = .quantize f x) ∨ i = .detect ∨ i = .smeter ∨
      i = .isError → new = [])

/-- R22 to R38: an element of the state keeps its value through every operation but those that the element's rule
names as its writers. A re-tune writes the stored frequency of the active mode back unchanged, and CHIP_RESET that of
RX, so only ENTER_TX changes `txFreq` and only ENTER_RX changes `rxFreq`. -/
def Obligations.OnlyTheNamedWriters : Prop :=
  ∀ (i : Instr) (s t : State), exec i s = .next t →
    ((∀ f, i ≠ .enterTx f) → t.txFreq = s.txFreq) ∧
    ((∀ f, i ≠ .enterRx f) → t.rxFreq = s.rxFreq) ∧
    ((∀ f, i ≠ .enterTx f) → (∀ f, i ≠ .enterRx f) → i ∉ [.chipReset, .tick] →
      t.isTx = s.isTx ∧ (s.Inv → t.modeLine = s.modeLine ∧ t.lastUserFreq = s.lastUserFreq)) ∧
    ((∀ v, i ≠ .setOffsetHz v) → (∀ v, i ≠ .setOffsetPpm v) → t.offset = s.offset) ∧
    ((∀ l, i ≠ .setSql l) → t.sqlIndex = s.sqlIndex) ∧
    ((∀ l, i ≠ .setSql l) → (∀ l, i ≠ .setGain l) → (∀ k m v, i ≠ .dynWrite k m v) → i ∉ [.agc, .tick] →
      t.dyn = s.dyn) ∧
    (i ∉ [.readSq, .tick] → t.rssi = s.rssi ∧ t.snr = s.snr) ∧
    (i ∉ [.detect, .tick] → t.filt = s.filt ∧ t.det = s.det) ∧
    (i ∉ [.smeter, .tick] → t.smeter = s.smeter) ∧
    t.cfg = s.cfg

/-- R63, R221: the transport's answers never change a status, and outside READ_SQ and TICK they reach nothing but the
error count, the events' `ok` marks and the answers themselves. The list of answers is log entry 2's. -/
def Obligations.AnswersReachOnlyErrorsAndTrace : Prop :=
  ∀ (i : Instr) (s t u : State) (as : List Answer) (d : Nat),
    exec i s = .next t → exec i { s with answers := as, draws := d } = .next u →
    u.rsp.map Response.status = t.rsp.map Response.status ∧
    (i ∉ [.readSq, .tick] →
      u = { t with errCount := u.errCount, trace := u.trace, answers := u.answers, draws := u.draws } ∧
      u.trace.map BusEvent.request = t.trace.map BusEvent.request)

/-- R222: an operation that ends with another status than OK has changed no state, but for the offset of the offset
operations, whose re-tune failed, and for the error count that CHIP_RESET and TICK clear first. -/
def Obligations.ErrorStatusesArePrecise : Prop :=
  ∀ (i : Instr) (s t : State) (r : Response), exec i s = .next t → t.rsp = some r → r.status ≠ .ok → i ≠ .tick →
    (((∃ v, i = .setOffsetHz v) ∨ (∃ v, i = .setOffsetPpm v)) ∧ r.status = .unsupported ∧
      t = { s with offset := t.offset, rsp := some r }) ∨
    (i = .chipReset ∧ r.status = .unsupported ∧ t = { s with errCount := 0, rsp := some r }) ∨
    t = { s with rsp := some r }

/-- R75: which operations raise which status. -/
def Obligations.StatusesOfEachOperation : Prop :=
  ∀ (i : Instr) (s t : State) (r : Response), exec i s = .next t → t.rsp = some r →
    (r.status = .unsupported → (∃ f, i = .classify f ∨ i = .enterTx f ∨ i = .enterRx f) ∨
      (∃ v, i = .setOffsetHz v ∨ i = .setOffsetPpm v) ∨ i = .chipReset ∨ i = .tick) ∧
    (r.status = .noFreq → ∃ v, i = .setOffsetPpm v) ∧
    (r.status = .overflow → ∃ f d, i = .synth f d) ∧
    (r.status = .illegal ↔ opcode i = 0 ∨ 0x12 ≤ (opcode i).toNat) ∧
    (r.status = .badIndex → ∃ k m v, i = .dynWrite k m v)

/-- R251: every operation makes at most `3 + |TX_BLOCK or RX_BLOCK| + |COMMON_BLOCK| + N_DYN` register accesses, the block
being that of the mode it leaves, and at most the line and the settle event beside them. The one exception is a TICK
with its CHIP_RESET part, to which R203 adds the read of READ_SQ and the gain write of AGC, as program P5 of
95_test_vectors.md does with 8 accesses where this bound is 7 (log entry 16). -/
def Obligations.BoundedBusEvents : Prop :=
  ∀ (i : Instr) (s t : State), exec i s = .next t → ∃ new, t.trace = s.trace ++ new ∧
    new.countP BusEvent.isAccess ≤ 3 + (if t.isTx then s.cfg.txBlock else s.cfg.rxBlock).length +
      s.cfg.commonBlock.length + s.cfg.nDyn + (if i = .tick ∧ s.cfg.errThreshold ≤ s.errCount.toNat then 2 else 0) ∧
    new.countP (fun e => !e.isAccess) ≤ 2

/-! ## Frequency synthesizer -/

/-- R106: CLASSIFY: its encoding, and its response on every frequency, in Hz, with no other effect. -/
def Obligations.ClassifyResult : Prop :=
  ∀ (f : Hz) (s : State), (∀ a1 : BitVec 32, decode (0x01#5 ++ a1 ++ f) = .classify f) ∧
    exec (.classify f) s = .next { s with rsp := some (
      if 384000000 < f.toNat ∧ f.toNat ≤ 512000000 then ⟨.ok, 4, 0x0002⟩
      else if 128000000 ≤ f.toNat ∧ f.toNat ≤ 170000000 then ⟨.ok, 12, 0x2004⟩
      else if 43000000 ≤ f.toNat ∧ f.toNat ≤ 57000000 then ⟨.ok, 36, 0x8008⟩
      else if 35000000 ≤ f.toNat ∧ f.toNat < 43000000 then ⟨.ok, 44, 0xA00A⟩
      else if 24000000 ≤ f.toNat ∧ f.toNat ≤ 32000000 then ⟨.ok, 64, 0xC00F⟩
      else ⟨.unsupported, 0, 0⟩) }

/-- R107: SYNTH: its encoding, and its response on every target and ratio, by integer division: OVERFLOW exactly when the
nearest word reaches 2^32, else the word in both results; no other effect. -/
def Obligations.SynthResult : Prop :=
  ∀ (f : Hz) (r : BitVec 8) (s : State),
    (∀ a1 : BitVec 32, a1.extractLsb' 0 8 = r → decode (0x02#5 ++ a1 ++ f) = .synth f r) ∧
    exec (.synth f r) s = .next { s with rsp := some (
      if 2 ^ 32 ≤ nearestWord (f.toNat * 10 ^ 9) r.toNat then ⟨.overflow, 0, 0⟩
      else ⟨.ok, BitVec.ofInt 64 (nearestWord (f.toNat * 10 ^ 9) r.toNat),
        BitVec.ofInt 32 (nearestWord (f.toNat * 10 ^ 9) r.toNat)⟩) }

/-- R109: QUANTIZE: its encoding, and its response on every frequency and step, by integer division; a step of zero or
less returns f; the result is below 2^33; no other effect. -/
def Obligations.QuantizeResult : Prop :=
  ∀ (f : Hz) (st : BitVec 32) (s : State), decode (0x03#5 ++ st ++ f) = .quantize f st ∧ ∃ q : Nat, q < 2 ^ 33 ∧
    (q : Int) = (if st.toInt ≤ 0 then (f.toNat : Int)
      else (2 * (f.toNat : Int) + st.toInt) / (2 * st.toInt) * st.toInt) ∧
    exec (.quantize f st) s = .next { s with rsp := some ⟨.ok, BitVec.ofNat 64 q, 0⟩ }

/-- R102: the supported set, and the ratio each part of it is given, over every signed nHz value. -/
def Obligations.SupportedSet : Prop :=
  ∀ a : Int,
    (classify a ≠ none ↔ (384 * 10 ^ 15 < a ∧ a ≤ 512 * 10 ^ 15) ∨ (128 * 10 ^ 15 ≤ a ∧ a ≤ 170 * 10 ^ 15) ∨
      (35 * 10 ^ 15 ≤ a ∧ a ≤ 57 * 10 ^ 15) ∨ (24 * 10 ^ 15 ≤ a ∧ a ≤ 32 * 10 ^ 15)) ∧
    (∀ r code, classify a = some ⟨r, code⟩ ↔ BandRow a r code)

/-- R104: no tuning word is a tie, and every word of an accepted frequency lies in the range given, so its bit 31 is
clear. -/
def Obligations.TuningWordRange : Prop :=
  (∀ (t : Int) (r : Nat) (k : Int), 2 * (t * r * 2 ^ 26) ≠ (2 * k + 1) * (85 * 10 ^ 15)) ∧
  (∀ (a : Int) (d : DivClass), classify a = some d →
    0x48484848 ≤ tw a d.ratio ∧ tw a d.ratio ≤ 0x60909091 ∧
    0x47DEA75C ≤ tw (a - 137000 * 10 ^ 9) d.ratio ∧ tw (a - 137000 * 10 ^ 9) d.ratio ≤ 0x60909091)

/-- R110: the frequency that a tuning word synthesizes is within half a step of the target, in exact integers: the word
times XTAL and the target times ratio times 2^24 differ by at most half of XTAL. The RX word is the TX word of the
frequency 0.137 MHz below, in the class of the frequency itself. -/
def Obligations.SynthesisRoundTrip : Prop :=
  ∀ (a : Int) (d : DivClass), classify a = some d →
    (∀ tx, 2 * |tw (lo tx a) d.ratio * (85 * 10 ^ 15) - lo tx a * d.ratio * 2 ^ 26| ≤ 85 * 10 ^ 15) ∧
    tw (lo false a) d.ratio = tw (lo true (a - 137000 * 10 ^ 9)) d.ratio

/-- R9: `roundHA` is the nearest integer, and of two nearest ones the one away from zero. -/
def Obligations.RoundsHalfAwayFromZero : Prop :=
  ∀ (q : Rat) (n : Int), roundHA q = n ↔
    (0 ≤ q ∧ (n : Rat) - 1 / 2 ≤ q ∧ q < n + 1 / 2) ∨ (q < 0 ∧ (n : Rat) - 1 / 2 < q ∧ q ≤ n + 1 / 2)

/-! ## Tuning -/

/-- R136: ENTER_TX: its encoding; on a frequency whose adjusted value is in a band, the whole sequence, in order, and the
whole next state; on any other, UNSUPPORTED and no other effect. The answers are those of log entry 2. -/
def Obligations.EnterTxResult : Prop :=
  ∀ (s : State) (f : Hz), (∀ a1 : BitVec 32, decode (0x04#5 ++ a1 ++ f) = .enterTx f) ∧
    (∀ r code, BandRow (f.toNat * 10 ^ 9 + s.offset.toInt) r code →
      ∃ oks, let ws := s.cfg.txBlock ++ s.cfg.commonBlock ++
          List.zipWith (fun d v => RegWrite.mk d.addr v) s.cfg.dynRegs s.dyn ++
          tripleFor s.cfg code (f.toNat * 10 ^ 9 + s.offset.toInt) r
        AnswersFor s ws.length oks ∧
        exec (.enterTx f) s = .next { afterAccesses ([.line s.cfg.modeTxLevel, .settle] ++ eventsOf ws oks) oks s with
          isTx := true, modeLine := s.cfg.modeTxLevel, txFreq := some f, lastUserFreq := some f,
          rsp := some ⟨.ok, 0, 0⟩ }) ∧
    ((∀ r code, ¬BandRow (f.toNat * 10 ^ 9 + s.offset.toInt) r code) →
      exec (.enterTx f) s = .next { s with rsp := some ⟨.unsupported, 0, 0⟩ })

/-- R137: ENTER_RX: its encoding; on a frequency whose adjusted value is in a band, the whole sequence, in order, and the
whole next state, with the oscillator 0.137 MHz below, in the class of the adjusted frequency; on any other, UNSUPPORTED and no other effect. The answers are those of log entry 2. -/
def Obligations.EnterRxResult : Prop :=
  ∀ (s : State) (f : Hz), (∀ a1 : BitVec 32, decode (0x05#5 ++ a1 ++ f) = .enterRx f) ∧
    (∀ r code, BandRow (f.toNat * 10 ^ 9 + s.offset.toInt) r code →
      ∃ oks, let ws := s.cfg.rxBlock ++ s.cfg.commonBlock ++
          List.zipWith (fun d v => RegWrite.mk d.addr v) s.cfg.dynRegs s.dyn ++
          tripleFor s.cfg code (f.toNat * 10 ^ 9 + s.offset.toInt - 137000 * 10 ^ 9) r
        AnswersFor s ws.length oks ∧
        exec (.enterRx f) s = .next { afterAccesses ([.line (!s.cfg.modeTxLevel), .settle] ++ eventsOf ws oks) oks s with
          isTx := false, modeLine := !s.cfg.modeTxLevel, rxFreq := some f, lastUserFreq := some f,
          rsp := some ⟨.ok, 0, 0⟩ }) ∧
    ((∀ r code, ¬BandRow (f.toNat * 10 ^ 9 + s.offset.toInt) r code) →
      exec (.enterRx f) s = .next { s with rsp := some ⟨.unsupported, 0, 0⟩ })

/-- R134: in either mode, an Enter whose adjusted frequency is in no band answers UNSUPPORTED and changes nothing: no
event, no state. -/
def Obligations.FailedEnterChangesNothing : Prop :=
  ∀ (s : State) (tx : Bool) (f : Hz), (∀ r code, ¬BandRow (f.toNat * 10 ^ 9 + s.offset.toInt) r code) →
    enterStatus tx f s = .unsupported ∧ enter tx f s = s

/-- R138, R135: SET_OFFSET_HZ: its encoding; it clamps to ±50 kHz, keeps the offset, re-tunes the active mode with its stored frequency
if it has one, and answers with the re-tune's status and the offset. -/
def Obligations.SetOffsetHzRetunes : Prop :=
  ∀ (s : State) (v : BitVec 32), (∀ a1 : BitVec 32, decode (0x06#5 ++ a1 ++ v) = .setOffsetHz v) ∧ ∃ o : BitVec 64,
    o.toInt = max (-(50000 * 10 ^ 9)) (min (v.toInt * 10 ^ 9) (50000 * 10 ^ 9)) ∧
    ((if s.isTx then s.txFreq else s.rxFreq) = none →
      exec (.setOffsetHz v) s = .next { s with offset := o, rsp := some ⟨.ok, o, 0⟩ }) ∧
    ∀ f, (if s.isTx then s.txFreq else s.rxFreq) = some f → ∃ u st,
      exec (if s.isTx then .enterTx f else .enterRx f) { s with offset := o } = .next u ∧ u.rsp = some ⟨st, 0, 0⟩ ∧
      exec (.setOffsetHz v) s = .next { u with rsp := some ⟨st, o, 0⟩ }

/-- R139, R135: SET_OFFSET_PPM: its encoding; it answers NO_FREQ with no other effect before any Enter has succeeded; else it sets the
offset to f * val nHz, clamped to ±50 kHz, and re-tunes as SET_OFFSET_HZ does. -/
def Obligations.SetOffsetPpmRetunes : Prop :=
  ∀ (s : State) (v : BitVec 32), (∀ a1 : BitVec 32, decode (0x07#5 ++ a1 ++ v) = .setOffsetPpm v) ∧
    (s.lastUserFreq = none → exec (.setOffsetPpm v) s = .next { s with rsp := some ⟨.noFreq, 0, 0⟩ }) ∧
    ∀ g, s.lastUserFreq = some g → ∃ o : BitVec 64,
      o.toInt = max (-(50000 * 10 ^ 9)) (min (g.toNat * v.toInt) (50000 * 10 ^ 9)) ∧
      ((if s.isTx then s.txFreq else s.rxFreq) = none →
        exec (.setOffsetPpm v) s = .next { s with offset := o, rsp := some ⟨.ok, o, 0⟩ }) ∧
      ∀ f, (if s.isTx then s.txFreq else s.rxFreq) = some f → ∃ u st,
        exec (if s.isTx then .enterTx f else .enterRx f) { s with offset := o } = .next u ∧ u.rsp = some ⟨st, 0, 0⟩ ∧
        exec (.setOffsetPpm v) s = .next { u with rsp := some ⟨st, o, 0⟩ }

/-- R141: SET_OFFSET_PPM twice in a row writes the same offset, gives the same response and asks the same of the bus
both times. -/
def Obligations.PpmTwiceIsTheSame : Prop :=
  ∀ (s t u : State) (v : BitVec 32), s.Inv → exec (.setOffsetPpm v) s = .next t → exec (.setOffsetPpm v) t = .next u →
    u.offset = t.offset ∧ u.rsp = t.rsp ∧ ∃ es fs, t.trace = s.trace ++ es ∧ u.trace = t.trace ++ fs ∧
      es.map BusEvent.request = fs.map BusEvent.request

/-- R132, R140, R244: whatever the operation, it writes the frequency registers either not at all, and then mode and
user frequency stay, or last as one run of REG_DIV, REG_TWH, REG_TWL with no event between, holding the divider code and
the word of the mode, the user frequency and the offset that the operation leaves. Nothing before that run writes them
unless a static block of the configuration does, which no rule forbids. -/
def Obligations.FrequencyRegistersHoldThePlan : Prop :=
  ∀ (i : Instr) (s t : State), s.Inv → exec i s = .next t →
    ∃ new, t.trace = s.trace ++ new ∧
      ((NoFreqWrite s.cfg new ∧ t.isTx = s.isTx ∧ t.lastUserFreq = s.lastUserFreq) ∨
       ∃ pre post f r code oks, t.lastUserFreq = some f ∧ BandRow (f.toNat * 10 ^ 9 + t.offset.toInt) r code ∧
         oks.length = 3 ∧
         new = pre ++ eventsOf (tripleFor s.cfg code
           (f.toNat * 10 ^ 9 + t.offset.toInt - if t.isTx then 0 else 137000 * 10 ^ 9) r) oks ++ post ∧
         (BlocksAvoidFreq s.cfg → NoFreqWrite s.cfg pre) ∧ NoFreqWrite s.cfg post)

/-- R140: in every state a run reaches from one that is so, the last frequency-register writes on the trace are those of
the mode and user frequency of the last successful Enter and of an offset in bound, whatever the configuration's blocks
write, the transport answers and the current offset has become. -/
def Obligations.StepKeepsTunedTrace : Prop :=
  ∀ s t : State, s.Inv → s.TunedTrace → step s = .next t → t.TunedTrace

/-- R62, R246: the cache is write-through. In every state a run reaches from one that is so, what a dynamic register was
last written with is what the cache holds, failed writes included. -/
def Obligations.StepKeepsCacheWritten : Prop :=
  ∀ s t : State, s.Inv → s.CacheWritten → step s = .next t → t.CacheWritten

/-! ## Signal path -/

/-- R160: READ_SQ: its encoding; it reads REG_SQ once and latches both fields, or zeros when the transport fails; the whole
next state. The answers are those of log entry 2. -/
def Obligations.ReadSqResult : Prop :=
  ∀ s : State, (∀ a1 a0 : BitVec 32, decode (0x08#5 ++ a1 ++ a0) = .readSq) ∧ ∃ (v : RegValue) (ok : Bool),
    (∀ a, s.answers.head? = some a → ok = a.ok ∧ (a.ok = true → v = a.value)) ∧
    let x := if ok then v.toNat else 0
    exec .readSq s = .next { afterAccesses [.read s.cfg.regSq v ok] [ok] s with
      rssi := BitVec.ofNat 8 (x / 2 ^ s.cfg.rssiLsb % 256)
      snr := BitVec.ofNat 6 (x / 2 ^ s.cfg.snrLsb % 64)
      rsp := some ⟨.ok, BitVec.ofNat 64 (x / 2 ^ s.cfg.rssiLsb % 256), BitVec.ofNat 32 (x / 2 ^ s.cfg.snrLsb % 64)⟩ }

/-- R163 to R166: DETECT: its encoding, and one step of the detector, the whole next state. -/
def Obligations.DetectResult : Prop :=
  ∀ s : State, (∀ a1 a0 : BitVec 32, decode (0x09#5 ++ a1 ++ a0) = .detect) ∧
    let filt' : Rat := if s.det then 3 / 5 * s.rssi.toNat + 2 / 5 * s.filt else 1 / 5 * s.rssi.toNat + 4 / 5 * s.filt
    let det' : Bool := if s.det then !(decide (filt' < (s.thr.toNat : Rat) - 3) || decide (s.snr.toNat < 2))
      else decide ((s.thr.toNat : Rat) + 3 < filt') && decide (2 ≤ s.snr.toNat) && !s.isTx
    exec .detect s = .next { s with filt := filt', det := det', rsp := some ⟨.ok, if det' then 1 else 0, 0⟩ }

/-- R167 (a): while undetected with a constant input, the filter after n + 1 calls is `x - (x - s)(4/5)^(n+1)`, and the
detector rises at the first call where that exceeds thr + 3. -/
def Obligations.DetectorRiseClosedForm : Prop :=
  ∀ (s : State) (n : Nat), s.cfg.wf = true → s.det = false → 2 ≤ s.snr.toNat → s.isTx = false →
    s.cmds = List.replicate (n + 1) (encode .detect) →
    (∀ m, 1 ≤ m → m ≤ n →
      (s.rssi.toNat : Rat) - (s.rssi.toNat - s.filt) * (4 / 5) ^ m ≤ (s.thr.toNat : Rat) + 3) →
    ∃ t, Sys2Proof.core.run (n + 1) s = .next t ∧
      t.filt = (s.rssi.toNat : Rat) - (s.rssi.toNat - s.filt) * (4 / 5) ^ (n + 1) ∧
      t.det = decide ((s.thr.toNat : Rat) + 3 <
        (s.rssi.toNat : Rat) - (s.rssi.toNat - s.filt) * (4 / 5) ^ (n + 1))

/-- R168, R169: SMETER: its encoding; the meter takes the number n of entries of SQL_TABLE that the sample reaches, and for
a well-formed configuration these are the first n; no other effect. -/
def Obligations.SmeterResult : Prop :=
  ∀ s : State, (∀ a1 a0 : BitVec 32, decode (0x0B#5 ++ a1 ++ a0) = .smeter) ∧ ∃ n : Nat, n ≤ 10 ∧
    n = (List.finRange 10).countP (fun j => decide ((s.cfg.sqlTable.get j).toNat ≤ s.rssi.toNat)) ∧
    (s.cfg.wf = true → ∀ j : Fin 10, (s.cfg.sqlTable.get j).toNat ≤ s.rssi.toNat ↔ j.val < n) ∧
    exec .smeter s = .next { s with smeter := BitVec.ofNat 4 n, rsp := some ⟨.ok, BitVec.ofNat 64 n, 0⟩ }

/-- R170, R171: AGC: its encoding, and the whole next state: the gain level asked for, no event without a change, and with one a single
write of the register whose gain field holds the new level and whose other bits are as they were. -/
def Obligations.AgcResult : Prop :=
  ∀ s : State, (∀ a1 a0 : BitVec 32, decode (0x0A#5 ++ a1 ++ a0) = .agc) ∧ ∃ n : BitVec 3,
    let x : Rat := if s.cfg.agcRssiSrc = .raw then (s.rssi.toNat : Rat) else s.filt
    let g : Int := s.gain.toNat
    (n.toNat : Int) = (if s.det = false then 7
      else if x ≤ (s.thr.toNat : Rat) then max 0 (min 7 (g + if s.cfg.agcLowStep = .plusOne then 1 else -1))
      else if 125 < x then max 0 (g - 1) else g) ∧
    (n = s.gain → exec .agc s = .next { s with rsp := some ⟨.ok, n.setWidth 64, 0⟩ }) ∧
    (n ≠ s.gain → ∃ v oks, AnswersFor s 1 oks ∧
      (∀ j, j < 16 → v.getLsbD j = if s.cfg.gainLsb ≤ j ∧ j < s.cfg.gainLsb + 3 then n.getLsbD (j - s.cfg.gainLsb)
        else (s.dynAt s.cfg.gainK).getLsbD j) ∧
      exec .agc s = .next { afterAccesses (eventsOf [⟨dynAddr s.cfg s.cfg.gainK, v⟩] oks) oks s with
        dyn := s.dyn.set s.cfg.gainK v, rsp := some ⟨.ok, n.setWidth 64, 1⟩ })

/-- R172: one AGC call moves the gain by at most one level, except the snap to 7 with no signal; and with
AGC_LOW_STEP = +1 a detected signal lowers it only above the overload level. -/
def Obligations.AgcMovesByOne : Prop :=
  ∀ s t : State, s.Inv → exec .agc s = .next t →
    (s.det = false → t.gain = 7) ∧
    (s.det = true → (t.gain.toNat : Int) - s.gain.toNat ∈ [-1, 0, 1]) ∧
    (s.det = true → s.cfg.agcLowStep = .plusOne → t.gain.toNat < s.gain.toNat →
      125 < if s.cfg.agcRssiSrc = .raw then (s.rssi.toNat : Rat) else s.filt)

/-- R173: SET_SQL: its encoding, and the whole next state: the index, and the squelch field of its register alone. -/
def Obligations.SetSqlResult : Prop :=
  ∀ (s : State) (level : BitVec 8),
    (∀ a1 a0 : BitVec 32, a0.extractLsb' 0 8 = level → decode (0x0C#5 ++ a1 ++ a0) = .setSql level) ∧ ∃ v oks,
    let i := min level.toNat 9
    AnswersFor s 1 oks ∧
    (∀ j, j < 16 → v.getLsbD j =
      if s.cfg.sqlLsb ≤ j ∧ j < s.cfg.sqlLsb + s.cfg.sqlWidth
      then (s.cfg.sqlEnc[i]'(by omega)).getLsbD (j - s.cfg.sqlLsb)
      else (s.dynAt s.cfg.sqlK).getLsbD j) ∧
    exec (.setSql level) s = .next { afterAccesses (eventsOf [⟨dynAddr s.cfg s.cfg.sqlK, v⟩] oks) oks s with
      sqlIndex := BitVec.ofNat 4 i, dyn := s.dyn.set s.cfg.sqlK v, rsp := some ⟨.ok, BitVec.ofNat 64 i, 0⟩ }

/-- R174: SET_GAIN: its encoding, and the whole next state: the gain field of its register alone. -/
def Obligations.SetGainResult : Prop :=
  ∀ (s : State) (level : BitVec 8),
    (∀ a1 a0 : BitVec 32, a0.extractLsb' 0 8 = level → decode (0x0D#5 ++ a1 ++ a0) = .setGain level) ∧ ∃ v oks,
    let g := min level.toNat 7
    AnswersFor s 1 oks ∧
    (∀ j, j < 16 → v.getLsbD j = if s.cfg.gainLsb ≤ j ∧ j < s.cfg.gainLsb + 3 then g.testBit (j - s.cfg.gainLsb)
      else (s.dynAt s.cfg.gainK).getLsbD j) ∧
    exec (.setGain level) s = .next { afterAccesses (eventsOf [⟨dynAddr s.cfg s.cfg.gainK, v⟩] oks) oks s with
      dyn := s.dyn.set s.cfg.gainK v, rsp := some ⟨.ok, BitVec.ofNat 64 g, 0⟩ }

/-- R175: DYN_WRITE: its encoding, and the whole next state: each masked bit from the value, every other bit as it was; BAD_INDEX with no
other effect where there is no register k. -/
def Obligations.DynWriteResult : Prop :=
  ∀ (s : State) (k : BitVec 8) (mask value : RegValue),
    (∀ a1 a0 : BitVec 32, a0.extractLsb' 0 8 = k → a1.extractLsb' 16 16 = mask → a1.extractLsb' 0 16 = value →
      decode (0x0E#5 ++ a1 ++ a0) = .dynWrite k mask value) ∧
    (s.cfg.nDyn ≤ k.toNat → exec (.dynWrite k mask value) s = .next { s with rsp := some ⟨.badIndex, 0, 0⟩ }) ∧
    (k.toNat < s.cfg.nDyn → ∃ v oks, AnswersFor s 1 oks ∧
      (∀ j, j < 16 → v.getLsbD j = if mask.getLsbD j then value.getLsbD j else (s.dynAt k.toNat).getLsbD j) ∧
      exec (.dynWrite k mask value) s =
        .next { afterAccesses (eventsOf [⟨dynAddr s.cfg k.toNat, v⟩] oks) oks s with
          dyn := s.dyn.set k.toNat v, rsp := some ⟨.ok, v.setWidth 64, 0⟩ })

/-- R30, R84, R86: in a good state SET_GAIN leaves the gain it was given, the squelch index and the squelch field as
they were; SET_SQL leaves the gain as it was and its field holding the encoding of the new index. -/
def Obligations.GainAndSquelchFieldsApart : Prop :=
  ∀ (s t : State) (level : BitVec 8), s.Inv →
    (exec (.setGain level) s = .next t → t.gain.toNat = min level.toNat 7 ∧ t.thr = s.thr ∧
      field (t.dynAt s.cfg.sqlK) s.cfg.sqlLsb s.cfg.sqlWidth = field (s.dynAt s.cfg.sqlK) s.cfg.sqlLsb s.cfg.sqlWidth) ∧
    (exec (.setSql level) s = .next t → t.gain = s.gain ∧ t.sqlIndex.toNat = min level.toNat 9 ∧
      t.thr = s.cfg.sqlTable[min level.toNat 9]'(by omega) ∧
      (field (t.dynAt s.cfg.sqlK) s.cfg.sqlLsb s.cfg.sqlWidth).toNat =
        (s.cfg.sqlEnc[min level.toNat 9]'(by omega)).toNat)

/-- R86, R175: a DYN_WRITE of a conforming host leaves the gain and the squelch field, and with them the gain and the
threshold, as they were. The bits that DYN_WRITE owns, to which a conforming host keeps, are a parameter of the model's
(log entry 11). -/
def Obligations.ConformingDynWriteKeepsFields : Prop :=
  ∀ (s t : State) (k : BitVec 8) (mask value : RegValue), s.Inv → dynWriteConforms s.cfg k mask = true →
    exec (.dynWrite k mask value) s = .next t → t.gain = s.gain ∧ t.sqlIndex = s.sqlIndex ∧ t.thr = s.thr ∧
      field (t.dynAt s.cfg.sqlK) s.cfg.sqlLsb s.cfg.sqlWidth = field (s.dynAt s.cfg.sqlK) s.cfg.sqlLsb s.cfg.sqlWidth

/-- R86: a configuration in which some bit lies in both the gain and the squelch field of one register, or in one of them
and among the bits that DYN_WRITE is used to own, is refused. That those bits are a parameter and that the step refuses
are the model's choices (log entries 11 and 12). -/
def Obligations.OverlappingFieldsAreRefused : Prop :=
  ∀ (s : State) (j : Nat), s.cmds ≠ [] →
    let inGain := s.cfg.gainLsb ≤ j ∧ j < s.cfg.gainLsb + 3
    let inSql := s.cfg.sqlLsb ≤ j ∧ j < s.cfg.sqlLsb + s.cfg.sqlWidth
    ((s.cfg.gainK = s.cfg.sqlK ∧ inGain ∧ inSql) ∨ (inGain ∧ (s.cfg.dynOwned s.cfg.gainK).getLsbD j = true) ∨
      (inSql ∧ (s.cfg.dynOwned s.cfg.sqlK).getLsbD j = true)) →
    step s = .refused .illFormedConfig

/-! ## Control -/

/-- R200: IS_ERROR: its encoding; it reports the flag and the count and changes nothing. -/
def Obligations.IsErrorResult : Prop :=
  ∀ s : State, (∀ a1 a0 : BitVec 32, decode (0x0F#5 ++ a1 ++ a0) = .isError) ∧ exec .isError s = .next { s with
    rsp := some ⟨.ok, if s.cfg.errThreshold ≤ s.errCount.toNat then 1 else 0, BitVec.ofNat 32 s.errCount.toNat⟩ }

/-- R202: CHIP_RESET: its encoding; it clears the error count, then does exactly what ENTER_RX at the last known RX frequency does, with
its status; with none known it does nothing more. -/
def Obligations.ChipResetResult : Prop :=
  ∀ s : State, (∀ a1 a0 : BitVec 32, decode (0x10#5 ++ a1 ++ a0) = .chipReset) ∧
    (s.rxFreq = none → exec .chipReset s = .next { s with errCount := 0, rsp := some ⟨.ok, 0, 0⟩ }) ∧
    (∀ f, s.rxFreq = some f → ∃ t, exec (.enterRx f) { s with errCount := 0 } = .next t ∧
      exec .chipReset s = .next t)

/-- R203: TICK: its encoding; it does what CHIP_RESET (when the flag is set), READ_SQ, DETECT, AGC and SMETER do one after the other, and
its response packs the meter, the gain and the detection state, with the count of errors. -/
def Obligations.TickComposesItsParts : Prop :=
  ∀ s : State, (∀ a1 a0 : BitVec 32, decode (0x11#5 ++ a1 ++ a0) = .tick) ∧ ∃ s0 s1 s2 s3 s4 : State,
    (if s.cfg.errThreshold ≤ s.errCount.toNat then exec .chipReset s = .next s0 else s0 = s) ∧
    exec .readSq s0 = .next s1 ∧ exec .detect s1 = .next s2 ∧ exec .agc s2 = .next s3 ∧ exec .smeter s3 = .next s4 ∧
    exec .tick s = .next { s4 with
      rsp := some ⟨if s.cfg.errThreshold ≤ s.errCount.toNat then s0.rsp.elim .ok Response.status else .ok,
        BitVec.ofNat 64 (16 * s4.smeter.toNat + 2 * s4.gain.toNat + if s4.det then 1 else 0),
        BitVec.ofNat 32 s4.errCount.toNat⟩ }

/-- R204: the reserved codes are 0x00 and 0x12..0x1F; each answers ILLEGAL and changes nothing else. -/
def Obligations.ReservedCodesAreIllegal : Prop :=
  ∀ (s : State) (i : Instr), opcode i = 0 ∨ 0x12 ≤ (opcode i).toNat →
    (∀ a1 a0 : BitVec 32, decode (opcode i ++ a1 ++ a0) = i) ∧ exec i s = .next { s with rsp := some ⟨.illegal, 0, 0⟩ }
end

