-- ==== Sys2Proof/Laws/State.lean ====
section
/-! SUPPORT. One lemma per field and per update of the state: what each shared operation does to each field. -/

namespace Sys2Proof.Machine

open Sys2Proof

variable (s : State)

/-! ## access -/

@[simp] theorem access_cfg (ok : Bool) (e : BusEvent) : (s.access ok e).cfg = s.cfg := rfl
@[simp] theorem access_isTx (ok : Bool) (e : BusEvent) : (s.access ok e).isTx = s.isTx := rfl
@[simp] theorem access_modeLine (ok : Bool) (e : BusEvent) : (s.access ok e).modeLine = s.modeLine := rfl
@[simp] theorem access_txFreq (ok : Bool) (e : BusEvent) : (s.access ok e).txFreq = s.txFreq := rfl
@[simp] theorem access_rxFreq (ok : Bool) (e : BusEvent) : (s.access ok e).rxFreq = s.rxFreq := rfl
@[simp] theorem access_lastUserFreq (ok : Bool) (e : BusEvent) : (s.access ok e).lastUserFreq = s.lastUserFreq := rfl
@[simp] theorem access_offset (ok : Bool) (e : BusEvent) : (s.access ok e).offset = s.offset := rfl
@[simp] theorem access_dyn (ok : Bool) (e : BusEvent) : (s.access ok e).dyn = s.dyn := rfl
@[simp] theorem access_sqlIndex (ok : Bool) (e : BusEvent) : (s.access ok e).sqlIndex = s.sqlIndex := rfl
@[simp] theorem access_rssi (ok : Bool) (e : BusEvent) : (s.access ok e).rssi = s.rssi := rfl
@[simp] theorem access_snr (ok : Bool) (e : BusEvent) : (s.access ok e).snr = s.snr := rfl
@[simp] theorem access_filt (ok : Bool) (e : BusEvent) : (s.access ok e).filt = s.filt := rfl
@[simp] theorem access_det (ok : Bool) (e : BusEvent) : (s.access ok e).det = s.det := rfl
@[simp] theorem access_smeter (ok : Bool) (e : BusEvent) : (s.access ok e).smeter = s.smeter := rfl
@[simp] theorem access_errCount (ok : Bool) (e : BusEvent) : (s.access ok e).errCount = if ok then s.errCount else satinc8 s.errCount := rfl
@[simp] theorem access_trace (ok : Bool) (e : BusEvent) : (s.access ok e).trace = s.trace ++ [e] := rfl
@[simp] theorem access_cmds (ok : Bool) (e : BusEvent) : (s.access ok e).cmds = s.cmds := rfl
@[simp] theorem access_rsp (ok : Bool) (e : BusEvent) : (s.access ok e).rsp = s.rsp := rfl
@[simp] theorem access_answers (ok : Bool) (e : BusEvent) : (s.access ok e).answers = s.answers.tail := rfl
@[simp] theorem access_draws (ok : Bool) (e : BusEvent) : (s.access ok e).draws = if s.answers.isEmpty then s.draws + 1 else s.draws := rfl

/-! ## memWrite -/

@[simp] theorem memWrite_cfg (a : RegAddr) (v : RegValue) : (memWrite a v s).cfg = s.cfg := rfl
@[simp] theorem memWrite_isTx (a : RegAddr) (v : RegValue) : (memWrite a v s).isTx = s.isTx := rfl
@[simp] theorem memWrite_modeLine (a : RegAddr) (v : RegValue) : (memWrite a v s).modeLine = s.modeLine := rfl
@[simp] theorem memWrite_txFreq (a : RegAddr) (v : RegValue) : (memWrite a v s).txFreq = s.txFreq := rfl
@[simp] theorem memWrite_rxFreq (a : RegAddr) (v : RegValue) : (memWrite a v s).rxFreq = s.rxFreq := rfl
@[simp] theorem memWrite_lastUserFreq (a : RegAddr) (v : RegValue) : (memWrite a v s).lastUserFreq = s.lastUserFreq := rfl
@[simp] theorem memWrite_offset (a : RegAddr) (v : RegValue) : (memWrite a v s).offset = s.offset := rfl
@[simp] theorem memWrite_dyn (a : RegAddr) (v : RegValue) : (memWrite a v s).dyn = s.dyn := rfl
@[simp] theorem memWrite_sqlIndex (a : RegAddr) (v : RegValue) : (memWrite a v s).sqlIndex = s.sqlIndex := rfl
@[simp] theorem memWrite_rssi (a : RegAddr) (v : RegValue) : (memWrite a v s).rssi = s.rssi := rfl
@[simp] theorem memWrite_snr (a : RegAddr) (v : RegValue) : (memWrite a v s).snr = s.snr := rfl
@[simp] theorem memWrite_filt (a : RegAddr) (v : RegValue) : (memWrite a v s).filt = s.filt := rfl
@[simp] theorem memWrite_det (a : RegAddr) (v : RegValue) : (memWrite a v s).det = s.det := rfl
@[simp] theorem memWrite_smeter (a : RegAddr) (v : RegValue) : (memWrite a v s).smeter = s.smeter := rfl
@[simp] theorem memWrite_errCount (a : RegAddr) (v : RegValue) : (memWrite a v s).errCount = if s.answer.ok then s.errCount else satinc8 s.errCount := rfl
@[simp] theorem memWrite_trace (a : RegAddr) (v : RegValue) : (memWrite a v s).trace = s.trace ++ [.write a v s.answer.ok] := rfl
@[simp] theorem memWrite_cmds (a : RegAddr) (v : RegValue) : (memWrite a v s).cmds = s.cmds := rfl
@[simp] theorem memWrite_rsp (a : RegAddr) (v : RegValue) : (memWrite a v s).rsp = s.rsp := rfl
@[simp] theorem memWrite_answers (a : RegAddr) (v : RegValue) : (memWrite a v s).answers = s.answers.tail := rfl
@[simp] theorem memWrite_draws (a : RegAddr) (v : RegValue) : (memWrite a v s).draws = if s.answers.isEmpty then s.draws + 1 else s.draws := rfl

/-! ## memRead -/

@[simp] theorem memRead_cfg (a : RegAddr) : (memRead a s).cfg = s.cfg := rfl
@[simp] theorem memRead_isTx (a : RegAddr) : (memRead a s).isTx = s.isTx := rfl
@[simp] theorem memRead_modeLine (a : RegAddr) : (memRead a s).modeLine = s.modeLine := rfl
@[simp] theorem memRead_txFreq (a : RegAddr) : (memRead a s).txFreq = s.txFreq := rfl
@[simp] theorem memRead_rxFreq (a : RegAddr) : (memRead a s).rxFreq = s.rxFreq := rfl
@[simp] theorem memRead_lastUserFreq (a : RegAddr) : (memRead a s).lastUserFreq = s.lastUserFreq := rfl
@[simp] theorem memRead_offset (a : RegAddr) : (memRead a s).offset = s.offset := rfl
@[simp] theorem memRead_dyn (a : RegAddr) : (memRead a s).dyn = s.dyn := rfl
@[simp] theorem memRead_sqlIndex (a : RegAddr) : (memRead a s).sqlIndex = s.sqlIndex := rfl
@[simp] theorem memRead_rssi (a : RegAddr) : (memRead a s).rssi = s.rssi := rfl
@[simp] theorem memRead_snr (a : RegAddr) : (memRead a s).snr = s.snr := rfl
@[simp] theorem memRead_filt (a : RegAddr) : (memRead a s).filt = s.filt := rfl
@[simp] theorem memRead_det (a : RegAddr) : (memRead a s).det = s.det := rfl
@[simp] theorem memRead_smeter (a : RegAddr) : (memRead a s).smeter = s.smeter := rfl
@[simp] theorem memRead_errCount (a : RegAddr) : (memRead a s).errCount = if s.answer.ok then s.errCount else satinc8 s.errCount := rfl
@[simp] theorem memRead_trace (a : RegAddr) : (memRead a s).trace = s.trace ++ [.read a s.answer.value s.answer.ok] := rfl
@[simp] theorem memRead_cmds (a : RegAddr) : (memRead a s).cmds = s.cmds := rfl
@[simp] theorem memRead_rsp (a : RegAddr) : (memRead a s).rsp = s.rsp := rfl
@[simp] theorem memRead_answers (a : RegAddr) : (memRead a s).answers = s.answers.tail := rfl
@[simp] theorem memRead_draws (a : RegAddr) : (memRead a s).draws = if s.answers.isEmpty then s.draws + 1 else s.draws := rfl

/-! ## setLine -/

@[simp] theorem setLine_cfg (level : Bool) : (setLine level s).cfg = s.cfg := rfl
@[simp] theorem setLine_isTx (level : Bool) : (setLine level s).isTx = s.isTx := rfl
@[simp] theorem setLine_modeLine (level : Bool) : (setLine level s).modeLine = level := rfl
@[simp] theorem setLine_txFreq (level : Bool) : (setLine level s).txFreq = s.txFreq := rfl
@[simp] theorem setLine_rxFreq (level : Bool) : (setLine level s).rxFreq = s.rxFreq := rfl
@[simp] theorem setLine_lastUserFreq (level : Bool) : (setLine level s).lastUserFreq = s.lastUserFreq := rfl
@[simp] theorem setLine_offset (level : Bool) : (setLine level s).offset = s.offset := rfl
@[simp] theorem setLine_dyn (level : Bool) : (setLine level s).dyn = s.dyn := rfl
@[simp] theorem setLine_sqlIndex (level : Bool) : (setLine level s).sqlIndex = s.sqlIndex := rfl
@[simp] theorem setLine_rssi (level : Bool) : (setLine level s).rssi = s.rssi := rfl
@[simp] theorem setLine_snr (level : Bool) : (setLine level s).snr = s.snr := rfl
@[simp] theorem setLine_filt (level : Bool) : (setLine level s).filt = s.filt := rfl
@[simp] theorem setLine_det (level : Bool) : (setLine level s).det = s.det := rfl
@[simp] theorem setLine_smeter (level : Bool) : (setLine level s).smeter = s.smeter := rfl
@[simp] theorem setLine_errCount (level : Bool) : (setLine level s).errCount = s.errCount := rfl
@[simp] theorem setLine_trace (level : Bool) : (setLine level s).trace = s.trace ++ [.line level] := rfl
@[simp] theorem setLine_cmds (level : Bool) : (setLine level s).cmds = s.cmds := rfl
@[simp] theorem setLine_rsp (level : Bool) : (setLine level s).rsp = s.rsp := rfl
@[simp] theorem setLine_answers (level : Bool) : (setLine level s).answers = s.answers := rfl
@[simp] theorem setLine_draws (level : Bool) : (setLine level s).draws = s.draws := rfl

/-! ## settle -/

@[simp] theorem settle_cfg : (settle s).cfg = s.cfg := rfl
@[simp] theorem settle_isTx : (settle s).isTx = s.isTx := rfl
@[simp] theorem settle_modeLine : (settle s).modeLine = s.modeLine := rfl
@[simp] theorem settle_txFreq : (settle s).txFreq = s.txFreq := rfl
@[simp] theorem settle_rxFreq : (settle s).rxFreq = s.rxFreq := rfl
@[simp] theorem settle_lastUserFreq : (settle s).lastUserFreq = s.lastUserFreq := rfl
@[simp] theorem settle_offset : (settle s).offset = s.offset := rfl
@[simp] theorem settle_dyn : (settle s).dyn = s.dyn := rfl
@[simp] theorem settle_sqlIndex : (settle s).sqlIndex = s.sqlIndex := rfl
@[simp] theorem settle_rssi : (settle s).rssi = s.rssi := rfl
@[simp] theorem settle_snr : (settle s).snr = s.snr := rfl
@[simp] theorem settle_filt : (settle s).filt = s.filt := rfl
@[simp] theorem settle_det : (settle s).det = s.det := rfl
@[simp] theorem settle_smeter : (settle s).smeter = s.smeter := rfl
@[simp] theorem settle_errCount : (settle s).errCount = s.errCount := rfl
@[simp] theorem settle_trace : (settle s).trace = s.trace ++ [.settle] := rfl
@[simp] theorem settle_cmds : (settle s).cmds = s.cmds := rfl
@[simp] theorem settle_rsp : (settle s).rsp = s.rsp := rfl
@[simp] theorem settle_answers : (settle s).answers = s.answers := rfl
@[simp] theorem settle_draws : (settle s).draws = s.draws := rfl

/-! ## respond -/

@[simp] theorem respond_cfg (r : Response) : (respond r s).cfg = s.cfg := rfl
@[simp] theorem respond_isTx (r : Response) : (respond r s).isTx = s.isTx := rfl
@[simp] theorem respond_modeLine (r : Response) : (respond r s).modeLine = s.modeLine := rfl
@[simp] theorem respond_txFreq (r : Response) : (respond r s).txFreq = s.txFreq := rfl
@[simp] theorem respond_rxFreq (r : Response) : (respond r s).rxFreq = s.rxFreq := rfl
@[simp] theorem respond_lastUserFreq (r : Response) : (respond r s).lastUserFreq = s.lastUserFreq := rfl
@[simp] theorem respond_offset (r : Response) : (respond r s).offset = s.offset := rfl
@[simp] theorem respond_dyn (r : Response) : (respond r s).dyn = s.dyn := rfl
@[simp] theorem respond_sqlIndex (r : Response) : (respond r s).sqlIndex = s.sqlIndex := rfl
@[simp] theorem respond_rssi (r : Response) : (respond r s).rssi = s.rssi := rfl
@[simp] theorem respond_snr (r : Response) : (respond r s).snr = s.snr := rfl
@[simp] theorem respond_filt (r : Response) : (respond r s).filt = s.filt := rfl
@[simp] theorem respond_det (r : Response) : (respond r s).det = s.det := rfl
@[simp] theorem respond_smeter (r : Response) : (respond r s).smeter = s.smeter := rfl
@[simp] theorem respond_errCount (r : Response) : (respond r s).errCount = s.errCount := rfl
@[simp] theorem respond_trace (r : Response) : (respond r s).trace = s.trace := rfl
@[simp] theorem respond_cmds (r : Response) : (respond r s).cmds = s.cmds := rfl
@[simp] theorem respond_rsp (r : Response) : (respond r s).rsp = some r := rfl
@[simp] theorem respond_answers (r : Response) : (respond r s).answers = s.answers := rfl
@[simp] theorem respond_draws (r : Response) : (respond r s).draws = s.draws := rfl

/-! ## finish -/

@[simp] theorem finish_cfg (st : Status) (r0 : BitVec 64) (r1 : BitVec 32) : (finish st r0 r1 s).cfg = s.cfg := rfl
@[simp] theorem finish_isTx (st : Status) (r0 : BitVec 64) (r1 : BitVec 32) : (finish st r0 r1 s).isTx = s.isTx := rfl
@[simp] theorem finish_modeLine (st : Status) (r0 : BitVec 64) (r1 : BitVec 32) : (finish st r0 r1 s).modeLine = s.modeLine := rfl
@[simp] theorem finish_txFreq (st : Status) (r0 : BitVec 64) (r1 : BitVec 32) : (finish st r0 r1 s).txFreq = s.txFreq := rfl
@[simp] theorem finish_rxFreq (st : Status) (r0 : BitVec 64) (r1 : BitVec 32) : (finish st r0 r1 s).rxFreq = s.rxFreq := rfl
@[simp] theorem finish_lastUserFreq (st : Status) (r0 : BitVec 64) (r1 : BitVec 32) : (finish st r0 r1 s).lastUserFreq = s.lastUserFreq := rfl
@[simp] theorem finish_offset (st : Status) (r0 : BitVec 64) (r1 : BitVec 32) : (finish st r0 r1 s).offset = s.offset := rfl
@[simp] theorem finish_dyn (st : Status) (r0 : BitVec 64) (r1 : BitVec 32) : (finish st r0 r1 s).dyn = s.dyn := rfl
@[simp] theorem finish_sqlIndex (st : Status) (r0 : BitVec 64) (r1 : BitVec 32) : (finish st r0 r1 s).sqlIndex = s.sqlIndex := rfl
@[simp] theorem finish_rssi (st : Status) (r0 : BitVec 64) (r1 : BitVec 32) : (finish st r0 r1 s).rssi = s.rssi := rfl
@[simp] theorem finish_snr (st : Status) (r0 : BitVec 64) (r1 : BitVec 32) : (finish st r0 r1 s).snr = s.snr := rfl
@[simp] theorem finish_filt (st : Status) (r0 : BitVec 64) (r1 : BitVec 32) : (finish st r0 r1 s).filt = s.filt := rfl
@[simp] theorem finish_det (st : Status) (r0 : BitVec 64) (r1 : BitVec 32) : (finish st r0 r1 s).det = s.det := rfl
@[simp] theorem finish_smeter (st : Status) (r0 : BitVec 64) (r1 : BitVec 32) : (finish st r0 r1 s).smeter = s.smeter := rfl
@[simp] theorem finish_errCount (st : Status) (r0 : BitVec 64) (r1 : BitVec 32) : (finish st r0 r1 s).errCount = s.errCount := rfl
@[simp] theorem finish_trace (st : Status) (r0 : BitVec 64) (r1 : BitVec 32) : (finish st r0 r1 s).trace = s.trace := rfl
@[simp] theorem finish_cmds (st : Status) (r0 : BitVec 64) (r1 : BitVec 32) : (finish st r0 r1 s).cmds = s.cmds := rfl
@[simp] theorem finish_rsp (st : Status) (r0 : BitVec 64) (r1 : BitVec 32) : (finish st r0 r1 s).rsp = some ⟨st, r0, r1⟩ := rfl
@[simp] theorem finish_answers (st : Status) (r0 : BitVec 64) (r1 : BitVec 32) : (finish st r0 r1 s).answers = s.answers := rfl
@[simp] theorem finish_draws (st : Status) (r0 : BitVec 64) (r1 : BitVec 32) : (finish st r0 r1 s).draws = s.draws := rfl

/-! ## writeDyn -/

@[simp] theorem writeDyn_cfg (k : Nat) (v : RegValue) : (writeDyn k v s).cfg = s.cfg := rfl
@[simp] theorem writeDyn_isTx (k : Nat) (v : RegValue) : (writeDyn k v s).isTx = s.isTx := rfl
@[simp] theorem writeDyn_modeLine (k : Nat) (v : RegValue) : (writeDyn k v s).modeLine = s.modeLine := rfl
@[simp] theorem writeDyn_txFreq (k : Nat) (v : RegValue) : (writeDyn k v s).txFreq = s.txFreq := rfl
@[simp] theorem writeDyn_rxFreq (k : Nat) (v : RegValue) : (writeDyn k v s).rxFreq = s.rxFreq := rfl
@[simp] theorem writeDyn_lastUserFreq (k : Nat) (v : RegValue) : (writeDyn k v s).lastUserFreq = s.lastUserFreq := rfl
@[simp] theorem writeDyn_offset (k : Nat) (v : RegValue) : (writeDyn k v s).offset = s.offset := rfl
@[simp] theorem writeDyn_dyn (k : Nat) (v : RegValue) : (writeDyn k v s).dyn = s.dyn.set k v := rfl
@[simp] theorem writeDyn_sqlIndex (k : Nat) (v : RegValue) : (writeDyn k v s).sqlIndex = s.sqlIndex := rfl
@[simp] theorem writeDyn_rssi (k : Nat) (v : RegValue) : (writeDyn k v s).rssi = s.rssi := rfl
@[simp] theorem writeDyn_snr (k : Nat) (v : RegValue) : (writeDyn k v s).snr = s.snr := rfl
@[simp] theorem writeDyn_filt (k : Nat) (v : RegValue) : (writeDyn k v s).filt = s.filt := rfl
@[simp] theorem writeDyn_det (k : Nat) (v : RegValue) : (writeDyn k v s).det = s.det := rfl
@[simp] theorem writeDyn_smeter (k : Nat) (v : RegValue) : (writeDyn k v s).smeter = s.smeter := rfl
@[simp] theorem writeDyn_errCount (k : Nat) (v : RegValue) : (writeDyn k v s).errCount = if s.answer.ok then s.errCount else satinc8 s.errCount := rfl
@[simp] theorem writeDyn_trace (k : Nat) (v : RegValue) : (writeDyn k v s).trace = s.trace ++ [.write (dynAddr s.cfg k) v s.answer.ok] := rfl
@[simp] theorem writeDyn_cmds (k : Nat) (v : RegValue) : (writeDyn k v s).cmds = s.cmds := rfl
@[simp] theorem writeDyn_rsp (k : Nat) (v : RegValue) : (writeDyn k v s).rsp = s.rsp := rfl
@[simp] theorem writeDyn_answers (k : Nat) (v : RegValue) : (writeDyn k v s).answers = s.answers.tail := rfl
@[simp] theorem writeDyn_draws (k : Nat) (v : RegValue) : (writeDyn k v s).draws = if s.answers.isEmpty then s.draws + 1 else s.draws := rfl

/-! ## recordTuned -/

@[simp] theorem recordTuned_cfg (tx : Bool) (f : Hz) : (recordTuned tx f s).cfg = s.cfg := rfl
@[simp] theorem recordTuned_isTx (tx : Bool) (f : Hz) : (recordTuned tx f s).isTx = tx := rfl
@[simp] theorem recordTuned_modeLine (tx : Bool) (f : Hz) : (recordTuned tx f s).modeLine = s.modeLine := rfl
@[simp] theorem recordTuned_txFreq (tx : Bool) (f : Hz) : (recordTuned tx f s).txFreq = if tx then some f else s.txFreq := rfl
@[simp] theorem recordTuned_rxFreq (tx : Bool) (f : Hz) : (recordTuned tx f s).rxFreq = if tx then s.rxFreq else some f := rfl
@[simp] theorem recordTuned_lastUserFreq (tx : Bool) (f : Hz) : (recordTuned tx f s).lastUserFreq = some f := rfl
@[simp] theorem recordTuned_offset (tx : Bool) (f : Hz) : (recordTuned tx f s).offset = s.offset := rfl
@[simp] theorem recordTuned_dyn (tx : Bool) (f : Hz) : (recordTuned tx f s).dyn = s.dyn := rfl
@[simp] theorem recordTuned_sqlIndex (tx : Bool) (f : Hz) : (recordTuned tx f s).sqlIndex = s.sqlIndex := rfl
@[simp] theorem recordTuned_rssi (tx : Bool) (f : Hz) : (recordTuned tx f s).rssi = s.rssi := rfl
@[simp] theorem recordTuned_snr (tx : Bool) (f : Hz) : (recordTuned tx f s).snr = s.snr := rfl
@[simp] theorem recordTuned_filt (tx : Bool) (f : Hz) : (recordTuned tx f s).filt = s.filt := rfl
@[simp] theorem recordTuned_det (tx : Bool) (f : Hz) : (recordTuned tx f s).det = s.det := rfl
@[simp] theorem recordTuned_smeter (tx : Bool) (f : Hz) : (recordTuned tx f s).smeter = s.smeter := rfl
@[simp] theorem recordTuned_errCount (tx : Bool) (f : Hz) : (recordTuned tx f s).errCount = s.errCount := rfl
@[simp] theorem recordTuned_trace (tx : Bool) (f : Hz) : (recordTuned tx f s).trace = s.trace := rfl
@[simp] theorem recordTuned_cmds (tx : Bool) (f : Hz) : (recordTuned tx f s).cmds = s.cmds := rfl
@[simp] theorem recordTuned_rsp (tx : Bool) (f : Hz) : (recordTuned tx f s).rsp = s.rsp := rfl
@[simp] theorem recordTuned_answers (tx : Bool) (f : Hz) : (recordTuned tx f s).answers = s.answers := rfl
@[simp] theorem recordTuned_draws (tx : Bool) (f : Hz) : (recordTuned tx f s).draws = s.draws := rfl

/-! ## setOffset -/

@[simp] theorem setOffset_cfg (v : Int) : (setOffset v s).cfg = s.cfg := rfl
@[simp] theorem setOffset_isTx (v : Int) : (setOffset v s).isTx = s.isTx := rfl
@[simp] theorem setOffset_modeLine (v : Int) : (setOffset v s).modeLine = s.modeLine := rfl
@[simp] theorem setOffset_txFreq (v : Int) : (setOffset v s).txFreq = s.txFreq := rfl
@[simp] theorem setOffset_rxFreq (v : Int) : (setOffset v s).rxFreq = s.rxFreq := rfl
@[simp] theorem setOffset_lastUserFreq (v : Int) : (setOffset v s).lastUserFreq = s.lastUserFreq := rfl
@[simp] theorem setOffset_offset (v : Int) : (setOffset v s).offset = BitVec.ofInt 64 (clamp v (-offsetMaxNHz) offsetMaxNHz) := rfl
@[simp] theorem setOffset_dyn (v : Int) : (setOffset v s).dyn = s.dyn := rfl
@[simp] theorem setOffset_sqlIndex (v : Int) : (setOffset v s).sqlIndex = s.sqlIndex := rfl
@[simp] theorem setOffset_rssi (v : Int) : (setOffset v s).rssi = s.rssi := rfl
@[simp] theorem setOffset_snr (v : Int) : (setOffset v s).snr = s.snr := rfl
@[simp] theorem setOffset_filt (v : Int) : (setOffset v s).filt = s.filt := rfl
@[simp] theorem setOffset_det (v : Int) : (setOffset v s).det = s.det := rfl
@[simp] theorem setOffset_smeter (v : Int) : (setOffset v s).smeter = s.smeter := rfl
@[simp] theorem setOffset_errCount (v : Int) : (setOffset v s).errCount = s.errCount := rfl
@[simp] theorem setOffset_trace (v : Int) : (setOffset v s).trace = s.trace := rfl
@[simp] theorem setOffset_cmds (v : Int) : (setOffset v s).cmds = s.cmds := rfl
@[simp] theorem setOffset_rsp (v : Int) : (setOffset v s).rsp = s.rsp := rfl
@[simp] theorem setOffset_answers (v : Int) : (setOffset v s).answers = s.answers := rfl
@[simp] theorem setOffset_draws (v : Int) : (setOffset v s).draws = s.draws := rfl

/-! ## clearErrors -/

@[simp] theorem clearErrors_cfg : (clearErrors s).cfg = s.cfg := rfl
@[simp] theorem clearErrors_isTx : (clearErrors s).isTx = s.isTx := rfl
@[simp] theorem clearErrors_modeLine : (clearErrors s).modeLine = s.modeLine := rfl
@[simp] theorem clearErrors_txFreq : (clearErrors s).txFreq = s.txFreq := rfl
@[simp] theorem clearErrors_rxFreq : (clearErrors s).rxFreq = s.rxFreq := rfl
@[simp] theorem clearErrors_lastUserFreq : (clearErrors s).lastUserFreq = s.lastUserFreq := rfl
@[simp] theorem clearErrors_offset : (clearErrors s).offset = s.offset := rfl
@[simp] theorem clearErrors_dyn : (clearErrors s).dyn = s.dyn := rfl
@[simp] theorem clearErrors_sqlIndex : (clearErrors s).sqlIndex = s.sqlIndex := rfl
@[simp] theorem clearErrors_rssi : (clearErrors s).rssi = s.rssi := rfl
@[simp] theorem clearErrors_snr : (clearErrors s).snr = s.snr := rfl
@[simp] theorem clearErrors_filt : (clearErrors s).filt = s.filt := rfl
@[simp] theorem clearErrors_det : (clearErrors s).det = s.det := rfl
@[simp] theorem clearErrors_smeter : (clearErrors s).smeter = s.smeter := rfl
@[simp] theorem clearErrors_errCount : (clearErrors s).errCount = 0 := rfl
@[simp] theorem clearErrors_trace : (clearErrors s).trace = s.trace := rfl
@[simp] theorem clearErrors_cmds : (clearErrors s).cmds = s.cmds := rfl
@[simp] theorem clearErrors_rsp : (clearErrors s).rsp = s.rsp := rfl
@[simp] theorem clearErrors_answers : (clearErrors s).answers = s.answers := rfl
@[simp] theorem clearErrors_draws : (clearErrors s).draws = s.draws := rfl

/-! ## readSqBody -/

@[simp] theorem readSqBody_cfg : (readSqBody s).cfg = s.cfg := rfl
@[simp] theorem readSqBody_isTx : (readSqBody s).isTx = s.isTx := rfl
@[simp] theorem readSqBody_modeLine : (readSqBody s).modeLine = s.modeLine := rfl
@[simp] theorem readSqBody_txFreq : (readSqBody s).txFreq = s.txFreq := rfl
@[simp] theorem readSqBody_rxFreq : (readSqBody s).rxFreq = s.rxFreq := rfl
@[simp] theorem readSqBody_lastUserFreq : (readSqBody s).lastUserFreq = s.lastUserFreq := rfl
@[simp] theorem readSqBody_offset : (readSqBody s).offset = s.offset := rfl
@[simp] theorem readSqBody_dyn : (readSqBody s).dyn = s.dyn := rfl
@[simp] theorem readSqBody_sqlIndex : (readSqBody s).sqlIndex = s.sqlIndex := rfl
@[simp] theorem readSqBody_rssi : (readSqBody s).rssi = field (memReadValue s) s.cfg.rssiLsb 8 := rfl
@[simp] theorem readSqBody_snr : (readSqBody s).snr = field (memReadValue s) s.cfg.snrLsb 6 := rfl
@[simp] theorem readSqBody_filt : (readSqBody s).filt = s.filt := rfl
@[simp] theorem readSqBody_det : (readSqBody s).det = s.det := rfl
@[simp] theorem readSqBody_smeter : (readSqBody s).smeter = s.smeter := rfl
@[simp] theorem readSqBody_errCount : (readSqBody s).errCount = if s.answer.ok then s.errCount else satinc8 s.errCount := rfl
@[simp] theorem readSqBody_trace : (readSqBody s).trace = s.trace ++ [.read s.cfg.regSq s.answer.value s.answer.ok] := rfl
@[simp] theorem readSqBody_cmds : (readSqBody s).cmds = s.cmds := rfl
@[simp] theorem readSqBody_rsp : (readSqBody s).rsp = s.rsp := rfl
@[simp] theorem readSqBody_answers : (readSqBody s).answers = s.answers.tail := rfl
@[simp] theorem readSqBody_draws : (readSqBody s).draws = if s.answers.isEmpty then s.draws + 1 else s.draws := rfl

/-! ## detectBody -/

@[simp] theorem detectBody_cfg : (detectBody s).cfg = s.cfg := rfl
@[simp] theorem detectBody_isTx : (detectBody s).isTx = s.isTx := rfl
@[simp] theorem detectBody_modeLine : (detectBody s).modeLine = s.modeLine := rfl
@[simp] theorem detectBody_txFreq : (detectBody s).txFreq = s.txFreq := rfl
@[simp] theorem detectBody_rxFreq : (detectBody s).rxFreq = s.rxFreq := rfl
@[simp] theorem detectBody_lastUserFreq : (detectBody s).lastUserFreq = s.lastUserFreq := rfl
@[simp] theorem detectBody_offset : (detectBody s).offset = s.offset := rfl
@[simp] theorem detectBody_dyn : (detectBody s).dyn = s.dyn := rfl
@[simp] theorem detectBody_sqlIndex : (detectBody s).sqlIndex = s.sqlIndex := rfl
@[simp] theorem detectBody_rssi : (detectBody s).rssi = s.rssi := rfl
@[simp] theorem detectBody_snr : (detectBody s).snr = s.snr := rfl
@[simp] theorem detectBody_filt : (detectBody s).filt = filtNext s := rfl
@[simp] theorem detectBody_det : (detectBody s).det = detNext s := rfl
@[simp] theorem detectBody_smeter : (detectBody s).smeter = s.smeter := rfl
@[simp] theorem detectBody_errCount : (detectBody s).errCount = s.errCount := rfl
@[simp] theorem detectBody_trace : (detectBody s).trace = s.trace := rfl
@[simp] theorem detectBody_cmds : (detectBody s).cmds = s.cmds := rfl
@[simp] theorem detectBody_rsp : (detectBody s).rsp = s.rsp := rfl
@[simp] theorem detectBody_answers : (detectBody s).answers = s.answers := rfl
@[simp] theorem detectBody_draws : (detectBody s).draws = s.draws := rfl

/-! ## smeterBody -/

@[simp] theorem smeterBody_cfg : (smeterBody s).cfg = s.cfg := rfl
@[simp] theorem smeterBody_isTx : (smeterBody s).isTx = s.isTx := rfl
@[simp] theorem smeterBody_modeLine : (smeterBody s).modeLine = s.modeLine := rfl
@[simp] theorem smeterBody_txFreq : (smeterBody s).txFreq = s.txFreq := rfl
@[simp] theorem smeterBody_rxFreq : (smeterBody s).rxFreq = s.rxFreq := rfl
@[simp] theorem smeterBody_lastUserFreq : (smeterBody s).lastUserFreq = s.lastUserFreq := rfl
@[simp] theorem smeterBody_offset : (smeterBody s).offset = s.offset := rfl
@[simp] theorem smeterBody_dyn : (smeterBody s).dyn = s.dyn := rfl
@[simp] theorem smeterBody_sqlIndex : (smeterBody s).sqlIndex = s.sqlIndex := rfl
@[simp] theorem smeterBody_rssi : (smeterBody s).rssi = s.rssi := rfl
@[simp] theorem smeterBody_snr : (smeterBody s).snr = s.snr := rfl
@[simp] theorem smeterBody_filt : (smeterBody s).filt = s.filt := rfl
@[simp] theorem smeterBody_det : (smeterBody s).det = s.det := rfl
@[simp] theorem smeterBody_smeter : (smeterBody s).smeter = BitVec.ofNat 4 (smeterOf s.cfg s.rssi.toNat) := rfl
@[simp] theorem smeterBody_errCount : (smeterBody s).errCount = s.errCount := rfl
@[simp] theorem smeterBody_trace : (smeterBody s).trace = s.trace := rfl
@[simp] theorem smeterBody_cmds : (smeterBody s).cmds = s.cmds := rfl
@[simp] theorem smeterBody_rsp : (smeterBody s).rsp = s.rsp := rfl
@[simp] theorem smeterBody_answers : (smeterBody s).answers = s.answers := rfl
@[simp] theorem smeterBody_draws : (smeterBody s).draws = s.draws := rfl

/-! ## present -/

@[simp] theorem present_cfg (w : Command) : (present w s).cfg = s.cfg := rfl
@[simp] theorem present_isTx (w : Command) : (present w s).isTx = s.isTx := rfl
@[simp] theorem present_modeLine (w : Command) : (present w s).modeLine = s.modeLine := rfl
@[simp] theorem present_txFreq (w : Command) : (present w s).txFreq = s.txFreq := rfl
@[simp] theorem present_rxFreq (w : Command) : (present w s).rxFreq = s.rxFreq := rfl
@[simp] theorem present_lastUserFreq (w : Command) : (present w s).lastUserFreq = s.lastUserFreq := rfl
@[simp] theorem present_offset (w : Command) : (present w s).offset = s.offset := rfl
@[simp] theorem present_dyn (w : Command) : (present w s).dyn = s.dyn := rfl
@[simp] theorem present_sqlIndex (w : Command) : (present w s).sqlIndex = s.sqlIndex := rfl
@[simp] theorem present_rssi (w : Command) : (present w s).rssi = s.rssi := rfl
@[simp] theorem present_snr (w : Command) : (present w s).snr = s.snr := rfl
@[simp] theorem present_filt (w : Command) : (present w s).filt = s.filt := rfl
@[simp] theorem present_det (w : Command) : (present w s).det = s.det := rfl
@[simp] theorem present_smeter (w : Command) : (present w s).smeter = s.smeter := rfl
@[simp] theorem present_errCount (w : Command) : (present w s).errCount = s.errCount := rfl
@[simp] theorem present_trace (w : Command) : (present w s).trace = s.trace := rfl
@[simp] theorem present_cmds (w : Command) : (present w s).cmds = w :: s.cmds := rfl
@[simp] theorem present_rsp (w : Command) : (present w s).rsp = s.rsp := rfl
@[simp] theorem present_answers (w : Command) : (present w s).answers = s.answers := rfl
@[simp] theorem present_draws (w : Command) : (present w s).draws = s.draws := rfl

end Sys2Proof.Machine
end

