-- ==== Sys2Proof/Laws/Arith.lean ====
section
/-! SUPPORT. What the arithmetic primitives of spec/00_scope.md R9 compute: `roundHA` as integer division, the bounds
of `clamp`, `satinc8`, and the bits of `field` and `setField`. -/

namespace Sys2Proof.Machine

open Sys2Proof

/-! ## Rounding -/

/-- The floor of a quotient of integers is the integer quotient. -/
theorem floor_div (n d : Int) (hd : 0 < d) : ((n : Rat) / (d : Rat)).floor = n / d := by
  obtain ⟨m, rfl⟩ := Int.eq_ofNat_of_zero_le hd.le
  exact Rat.floor_intCast_div_natCast n m

/-- The integer floor is at or below `q` and less than one below it. -/
theorem floor_bounds (q : Rat) : (q.floor : Rat) ≤ q ∧ q < q.floor + 1 :=
  ⟨Rat.le_floor_iff.mp le_rfl, Int.lt_floor_add_one q⟩

/-- `roundHA` of a nonnegative quotient, as an integer division. -/
theorem roundHA_div (n d : Int) (hn : 0 ≤ n) (hd : 0 < d) :
    roundHA ((n : Rat) / (d : Rat)) = (2 * n + d) / (2 * d) := by
  have hd' : (0 : Rat) < d := by exact_mod_cast hd
  have hq : (0 : Rat) ≤ (n : Rat) / d := div_nonneg (by exact_mod_cast hn) hd'.le
  have hsum : (n : Rat) / d + 1 / 2 = ((2 * n + d : Int) : Rat) / ((2 * d : Int) : Rat) := by
    push_cast
    field_simp
  rw [roundHA, if_pos hq, hsum, floor_div _ _ (by omega)]

/-- `roundHA` is a nearest integer. -/
theorem roundHA_near (q : Rat) : |(roundHA q : Rat) - q| ≤ 1 / 2 := by
  unfold roundHA
  split
  · have h := floor_bounds (q + 1 / 2)
    rw [abs_le]; constructor <;> linarith [h.1, h.2]
  · have h := floor_bounds (-q + 1 / 2)
    push_cast
    rw [abs_le]; constructor <;> linarith [h.1, h.2]

/-- The tuning word of a nonnegative target, as an integer division (R103). -/
theorem tw_eq_div (t : Int) (r : Nat) (ht : 0 ≤ t) :
    tw t r = (2 * (t * r * 2 ^ 26) + 85 * 10 ^ 15) / (2 * (85 * 10 ^ 15)) :=
  roundHA_div _ _ (by positivity) (by norm_num)

/-- `quantize` of a positive step, as an integer division (R108). -/
theorem quantize_eq_div (f : Nat) (step : Int) (h : 0 < step) :
    quantize f step = (2 * f + step) / (2 * step) * step := by
  have := roundHA_div f step (by positivity) h
  rw [quantize, if_neg (by omega)]
  norm_cast at this ⊢
  rw [← this]

/-! ## Clamping and counting -/

/-- `clamp` stays in its range. -/
theorem clamp_bounds (v lo hi : Int) (h : lo ≤ hi) : lo ≤ clamp v lo hi ∧ clamp v lo hi ≤ hi := by
  unfold clamp; omega

/-- The stored offset is the clamped one: it fits 64 bits (R27). -/
theorem setOffset_toInt (v : Int) (s : State) :
    (setOffset v s).offset.toInt = clamp v (-offsetMaxNHz) offsetMaxNHz := by
  have h := clamp_bounds v (-offsetMaxNHz) offsetMaxNHz (by decide)
  simp only [setOffset_offset]
  rw [BitVec.toInt_ofInt, Int.bmod_def]
  simp only [offsetMaxNHz, nhzPerHz] at *
  omega

/-- `satinc8` as a number. -/
@[simp] theorem satinc8_toNat (n : BitVec 8) : (satinc8 n).toNat = min (n.toNat + 1) 255 := by
  simp only [satinc8, BitVec.toNat_ofNat]; omega

/-! ## Fields -/

/-- The bits of a field. -/
theorem field_getElem (v : RegValue) (lsb w i : Nat) (h : i < w) : (field v lsb w)[i] = v.getLsbD (lsb + i) := by
  simp [field]

/-- The bits a field covers. -/
theorem fieldMask_getLsbD (lsb w i : Nat) :
    (fieldMask lsb w).getLsbD i = (decide (i < 16) && decide (lsb ≤ i) && decide (i < lsb + w)) := by
  simp only [fieldMask, BitVec.getLsbD_ofNat, Nat.testBit_shiftLeft, Nat.testBit_two_pow_sub_one, ge_iff_le]
  by_cases h1 : i < 16 <;> by_cases h2 : lsb ≤ i <;> simp [h1, h2]
  omega

/-- A word that shares no bit with a field's mask has no bit of the field. -/
theorem and_fieldMask_zero {v : RegValue} {lsb w : Nat} (h : v &&& fieldMask lsb w = 0) (j : Nat) (h1 : lsb ≤ j)
    (h2 : j < lsb + w) : v.getLsbD j = false := by
  by_cases hj : j < 16
  · have hm : (fieldMask lsb w).getLsbD j = true := by simp [fieldMask_getLsbD, hj, h1, h2]
    have := congrArg (fun x : RegValue => x.getLsbD j) h
    simp only [BitVec.getLsbD_and, hm, Bool.and_true] at this
    simpa using this
  · exact BitVec.getLsbD_of_ge _ _ (by omega)

/-- `setField`, bit by bit: the field takes the bits of `x`, every other bit stays. -/
theorem setField_getLsbD (v : RegValue) (lsb w x i : Nat) :
    (setField v lsb w x).getLsbD i =
      (decide (i < 16) && if lsb ≤ i ∧ i < lsb + w then x.testBit (i - lsb) else v.getLsbD i) := by
  simp only [setField, BitVec.getLsbD_or, BitVec.getLsbD_and, BitVec.getLsbD_not, fieldMask_getLsbD,
    BitVec.getLsbD_ofNat, Nat.testBit_shiftLeft, Nat.testBit_mod_two_pow, ge_iff_le]
  by_cases h1 : i < 16 <;> by_cases h2 : lsb ≤ i <;> by_cases h3 : i < lsb + w <;>
    simp [h1, h2, h3] <;> omega

/-- A masked write, bit by bit (R175): masked bits come from the value, the others stay. -/
theorem maskedValue_getLsbD (old mask value : RegValue) (j : Nat) :
    (maskedValue old mask value).getLsbD j = if mask.getLsbD j then value.getLsbD j else old.getLsbD j := by
  by_cases hj : j < 16
  · simp only [maskedValue, BitVec.getLsbD_or, BitVec.getLsbD_and, BitVec.getLsbD_not, hj]
    cases mask.getLsbD j <;> simp
  · simp [BitVec.getLsbD_of_ge _ j (by omega : 16 ≤ j)]

/-- Reading the field just set. -/
theorem field_setField_same (v : RegValue) (lsb w x : Nat) (h : lsb + w ≤ 16) :
    field (setField v lsb w x) lsb w = BitVec.ofNat w x := by
  apply BitVec.eq_of_getElem_eq
  intro i hi
  rw [field_getElem _ _ _ _ hi, setField_getLsbD, if_pos (by omega), ← BitVec.getLsbD_eq_getElem hi,
    BitVec.getLsbD_ofNat]
  simp [hi]; omega

/-- Reading a field that shares no bit with the one set. -/
theorem field_setField_disjoint (v : RegValue) (lsb w x lsb' w' : Nat) (h : lsb' + w' ≤ lsb ∨ lsb + w ≤ lsb')
    (h' : lsb' + w' ≤ 16) : field (setField v lsb w x) lsb' w' = field v lsb' w' := by
  apply BitVec.eq_of_getElem_eq
  intro i hi
  rw [field_getElem _ _ _ _ hi, field_getElem _ _ _ _ hi, setField_getLsbD, if_neg (by omega)]
  simp; omega

end Sys2Proof.Machine
end

