-- ==== Sys2Proof/Laws/Dispatch.lean ====
section
/-! SUPPORT. What each arm of the dispatch answers: no operation stops (spec/60_exceptions.md R220), so `exec` is
`next` of one state, written out per operation. -/

namespace Sys2Proof.Machine

open Sys2Proof

/-- The state an operation leaves. -/
def leaves (i : Instr) (s : State) : State :=
  match i with
  | .classify f => respond (classifyResponse (classify (nhz f))) s
  | .synth f r => respond (synthResponse (tw (nhz f) r.toNat)) s
  | .quantize f st => finish .ok (BitVec.ofInt 64 (quantize f.toNat (signedOperand st))) 0 s
  | .enterTx f => finish (enterStatus true f s) 0 0 (enter true f s)
  | .enterRx f => finish (enterStatus false f s) 0 0 (enter false f s)
  | .setOffsetHz v => offsetAndRetune (signedOperand v * nhzPerHz) s
  | .setOffsetPpm v => afterSetOffsetPpm v s
  | .readSq => finish .ok ((readSqBody s).rssi.setWidth 64) ((readSqBody s).snr.setWidth 32) (readSqBody s)
  | .detect => finish .ok ((BitVec.ofBool (detectBody s).det).setWidth 64) 0 (detectBody s)
  | .agc => finish .ok ((agcGain s).setWidth 64) (if agcGain s = s.gain then 0 else 1) (agcBody s)
  | .smeter => finish .ok ((smeterBody s).smeter.setWidth 64) 0 (smeterBody s)
  | .setSql l => finish .ok ((sqlLevel l).setWidth 64) 0
      (writeField s.cfg.sqlK s.cfg.sqlLsb s.cfg.sqlWidth (sqlEncode s.cfg (sqlLevel l).toNat).toNat
        { s with sqlIndex := sqlLevel l })
  | .setGain l => finish .ok ((gainLevel l).setWidth 64) 0
      (writeField s.cfg.gainK s.cfg.gainLsb 3 (gainLevel l).toNat s)
  | .dynWrite k m v => afterDynWrite k.toNat m v s
  | .isError => finish .ok ((BitVec.ofBool s.isError).setWidth 64) (s.errCount.setWidth 32) s
  | .chipReset => finish (chipResetStatus s) 0 0 (chipResetBody s)
  | .tick => finish (tickStatus s) ((tickReport (tickBody s)).setWidth 64) ((tickBody s).errCount.setWidth 32) (tickBody s)
  | .reserved00 => reservedCode s
  | .reserved12 => reservedCode s
  | .reserved13 => reservedCode s
  | .reserved14 => reservedCode s
  | .reserved15 => reservedCode s
  | .reserved16 => reservedCode s
  | .reserved17 => reservedCode s
  | .reserved18 => reservedCode s
  | .reserved19 => reservedCode s
  | .reserved1A => reservedCode s
  | .reserved1B => reservedCode s
  | .reserved1C => reservedCode s
  | .reserved1D => reservedCode s
  | .reserved1E => reservedCode s
  | .reserved1F => reservedCode s

/-- Every operation answers the state it leaves. -/
theorem exec_eq_leaves (i : Instr) (s : State) : exec i s = .next (leaves i s) := by
  cases i <;> rfl

/-- A next state of an operation is the one it leaves. -/
theorem leaves_of_exec (i : Instr) (s t : State) (h : exec i s = .next t) : t = leaves i s := by
  rw [exec_eq_leaves] at h
  injection h with h
  exact h.symm

end Sys2Proof.Machine
end

