-- ==== Sys2Proof/Laws/Encoding.lean ====
section
/-! SUPPORT. The fields of a command word built from its parts (spec/30_encoding.md R70, R71). -/

namespace Sys2Proof

/-- A command word, bit by bit. -/
theorem mkCommand_getLsbD (op : BitVec 5) (a1 a0 : BitVec 32) (i : Nat) :
    (mkCommand op a1 a0).getLsbD i =
      if i < 32 then a0.getLsbD i else if i < 64 then a1.getLsbD (i - 32) else op.getLsbD (i - 64) := by
  show (op ++ a1 ++ a0 : BitVec (5 + 32 + 32)).getLsbD i = _
  simp only [BitVec.getLsbD_append]
  by_cases h : i < 32 <;> by_cases h' : i < 64 <;> simp [h, h', Nat.sub_sub]
  all_goals intros; omega

@[simp] theorem opField_mkCommand (op : BitVec 5) (a1 a0 : BitVec 32) : opField (mkCommand op a1 a0) = op := by
  apply BitVec.eq_of_getLsbD_eq
  intro i hi
  simp only [opField, BitVec.getLsbD_extractLsb', mkCommand_getLsbD, hi]
  simp; intro; omega

@[simp] theorem argA1_mkCommand (op : BitVec 5) (a1 a0 : BitVec 32) : argA1 (mkCommand op a1 a0) = a1 := by
  apply BitVec.eq_of_getLsbD_eq
  intro i hi
  simp only [argA1, BitVec.getLsbD_extractLsb', mkCommand_getLsbD, hi]
  simp; intro; omega

@[simp] theorem argA0_mkCommand (op : BitVec 5) (a1 a0 : BitVec 32) : argA0 (mkCommand op a1 a0) = a0 := by
  apply BitVec.eq_of_getLsbD_eq
  intro i hi
  simp only [argA0, BitVec.getLsbD_extractLsb', mkCommand_getLsbD, hi]
  simp [hi]

@[simp] theorem argRatio_mkCommand (op : BitVec 5) (a1 a0 : BitVec 32) :
    argRatio (mkCommand op a1 a0) = a1.extractLsb' 0 8 := by simp [argRatio]

@[simp] theorem argLevel_mkCommand (op : BitVec 5) (a1 a0 : BitVec 32) :
    argLevel (mkCommand op a1 a0) = a0.extractLsb' 0 8 := by simp [argLevel]

@[simp] theorem argMask_mkCommand (op : BitVec 5) (a1 a0 : BitVec 32) :
    argMask (mkCommand op a1 a0) = a1.extractLsb' 16 16 := by simp [argMask]

@[simp] theorem argValue_mkCommand (op : BitVec 5) (a1 a0 : BitVec 32) :
    argValue (mkCommand op a1 a0) = a1.extractLsb' 0 16 := by simp [argValue]

/-- An 8-bit operand is read back from its 32-bit field. -/
@[simp] theorem zeroExt8_extract (b : BitVec 8) : (zeroExt8 b).extractLsb' 0 8 = b := by
  apply BitVec.eq_of_getLsbD_eq
  intro i hi
  simp [zeroExt8, hi]; intro; omega

/-- DYN_WRITE's second argument, bit by bit. -/
theorem maskValue_getLsbD (m v : BitVec 16) (i : Nat) :
    (m ++ v : BitVec 32).getLsbD i = if i < 16 then v.getLsbD i else m.getLsbD (i - 16) := by
  show (m ++ v : BitVec (16 + 16)).getLsbD i = _
  simp only [BitVec.getLsbD_append]

@[simp] theorem maskValue_value (m v : BitVec 16) : (m ++ v : BitVec 32).extractLsb' 0 16 = v := by
  apply BitVec.eq_of_getLsbD_eq
  intro i hi
  simp [maskValue_getLsbD, hi]

@[simp] theorem maskValue_mask (m v : BitVec 16) : (m ++ v : BitVec 32).extractLsb' 16 16 = m := by
  apply BitVec.eq_of_getLsbD_eq
  intro i hi
  simp [maskValue_getLsbD, hi]

end Sys2Proof
end

