-- ==== Sys2Proof/Laws/Ops.lean ====
section
/-! SUPPORT. What the shared bus operations do, each said once. -/

namespace Sys2Proof.Machine

open Sys2Proof

/-! ## The transport's answers -/

/-- The `ok` answers of the next n accesses, given the listed answers and the count of free ones. -/
def oksFrom : Nat → List Answer → Nat → List Bool
  | 0, _, _ => []
  | n + 1, a :: as, d => a.ok :: oksFrom n as d
  | n + 1, [], d => Config.freeOk d :: oksFrom n [] (d + 1)

/-- One answer per access. -/
@[simp] theorem oksFrom_length (n : Nat) (as : List Answer) (d : Nat) : (oksFrom n as d).length = n := by
  induction n generalizing as d with
  | zero => rfl
  | succ n ih => cases as <;> simp [oksFrom, ih]

/-- An access for which an answer is listed takes that answer. -/
theorem oksFrom_listed (n : Nat) (as : List Answer) (d j : Nat) (hj : j < n) (h : j < as.length) :
    (oksFrom n as d)[j]? = some as[j].ok := by
  induction n generalizing as d j with
  | zero => omega
  | succ n ih =>
    cases as with
    | nil => simp at h
    | cons a as =>
      cases j with
      | zero => simp [oksFrom]
      | succ j => simpa [oksFrom] using ih as d j (by omega) (by simpa using h)

/-- The error count after `n` more failures (R11, R38). -/
def countFailures (e : BitVec 8) (n : Nat) : BitVec 8 := BitVec.ofNat 8 (min (e.toNat + n) 255)

@[simp] theorem countFailures_zero (e : BitVec 8) : countFailures e 0 = e := by
  apply BitVec.eq_of_toNat_eq
  simp only [countFailures, BitVec.toNat_ofNat]; omega

@[simp] theorem countFailures_toNat (e : BitVec 8) (n : Nat) : (countFailures e n).toNat = min (e.toNat + n) 255 := by
  simp only [countFailures, BitVec.toNat_ofNat]; omega

theorem countFailures_satinc8 (e : BitVec 8) (n : Nat) : countFailures (satinc8 e) n = countFailures e (n + 1) := by
  apply BitVec.eq_of_toNat_eq
  simp only [countFailures_toNat, satinc8_toNat]; omega

theorem satinc8_eq (e : BitVec 8) : satinc8 e = countFailures e 1 := by
  apply BitVec.eq_of_toNat_eq
  simp only [countFailures_toNat, satinc8_toNat]

/-! ## A sequence of writes -/

/-- The events of a sequence of writes and its answers. -/
def writeEvents (ws : List RegWrite) (oks : List Bool) : List BusEvent :=
  List.zipWith (fun w ok => .write w.addr w.value ok) ws oks

/-- Everything `writeAll` does: one event per write, in order, each failure counted, one answer taken each. -/
theorem writeAll_eq (ws : List RegWrite) (s : State) :
    writeAll ws s =
      { s with
        trace := s.trace ++ writeEvents ws (oksFrom ws.length s.answers s.draws)
        errCount := countFailures s.errCount ((oksFrom ws.length s.answers s.draws).count false)
        answers := s.answers.drop ws.length
        draws := s.draws + (ws.length - s.answers.length) } := by
  induction ws generalizing s with
  | nil => simp [writeAll, writeEvents, oksFrom]
  | cons w ws ih =>
    rw [writeAll, ih]
    obtain ⟨_, _, _, _, _, _, _, _, _, _, _, _, _, _, e, _, _, _, as, d⟩ := s
    cases as with
    | nil =>
      cases h : Config.freeOk d <;>
        simp [memWrite, State.access, State.answer, oksFrom, writeEvents, h, countFailures_satinc8, Nat.add_assoc,
          Nat.add_comm 1]
    | cons a as =>
      cases h : a.ok <;>
        simp [memWrite, State.access, State.answer, oksFrom, writeEvents, h, countFailures_satinc8]

/-- One access, as `afterAccesses` of its event. -/
theorem access_eq_afterAccesses (s : State) (e : BusEvent) :
    s.access s.answer.ok e = afterAccesses [e] [s.answer.ok] s := by
  obtain ⟨_, _, _, _, _, _, _, _, _, _, _, _, _, _, c, _, _, _, as, d⟩ := s
  have hc : satinc8 c = countFailures c 1 := satinc8_eq c
  have h0 : countFailures c 0 = c := countFailures_zero c
  cases as with
  | nil =>
    cases h : Config.freeOk d <;>
      simp_all [State.access, State.answer, afterAccesses, countFailures]
  | cons a as =>
    cases h : a.ok <;> simp_all [State.access, State.answer, afterAccesses, countFailures]

/-- The answers a sequence of accesses takes are possible ones. -/
theorem answersFor_oksFrom (s : State) (n : Nat) : AnswersFor s n (oksFrom n s.answers s.draws) := by
  refine ⟨oksFrom_length _ _ _, fun j a hj h => ?_⟩
  obtain ⟨hl, rfl⟩ := List.getElem?_eq_some_iff.1 h
  exact oksFrom_listed n s.answers s.draws j hj hl

/-- The answer of the next access is a possible one. -/
theorem answersFor_one (s : State) : AnswersFor s 1 [s.answer.ok] := by
  refine ⟨rfl, fun j a hj h => ?_⟩
  obtain rfl : j = 0 := by omega
  cases hs : s.answers with
  | nil => simp [hs] at h
  | cons b bs => simp [hs] at h; simp [State.answer, hs, h]

/-- The value a failed read returns is 0, whatever field of it is read. -/
theorem field_memReadValue (s : State) (lsb w : Nat) :
    field (memReadValue s) lsb w =
      BitVec.ofNat w ((if s.answer.ok then s.answer.value.toNat else 0) / 2 ^ lsb % 2 ^ w) := by
  apply BitVec.eq_of_toNat_eq
  unfold field memReadValue
  split <;> simp [Nat.shiftRight_eq_div_pow]

/-- Everything a write-through of the cache does (R62): the entry takes the value, whatever the transport answers, and one
write event goes out. -/
theorem writeDyn_eq (k : Nat) (v : RegValue) (s : State) :
    writeDyn k v s =
      { afterAccesses (eventsOf [⟨dynAddr s.cfg k, v⟩] [s.answer.ok]) [s.answer.ok] s with dyn := s.dyn.set k v } := by
  unfold writeDyn memWrite
  exact access_eq_afterAccesses { s with dyn := s.dyn.set k v } _

end Sys2Proof.Machine
end

