-- ==== Sys2Proof/Laws/PerInstr.lean ====
section
/-! SUPPORT. Statements made per instruction, one lemma per constructor. -/

namespace Sys2Proof.Laws

/-- The encoding of an instruction has its operation code in bits 68:64 (R70, R73). -/
def EncodeOpcode.Statement (i : Instr) : Prop := opField (encode i) = opcode i

theorem EncodeOpcode.reserved00 : EncodeOpcode.Statement .reserved00 := opField_mkCommand _ _ _
theorem EncodeOpcode.classify (f : Hz) : EncodeOpcode.Statement (.classify f) := opField_mkCommand _ _ _
theorem EncodeOpcode.synth (t : Hz) (r : BitVec 8) : EncodeOpcode.Statement (.synth t r) := opField_mkCommand _ _ _
theorem EncodeOpcode.quantize (f : Hz) (st : BitVec 32) : EncodeOpcode.Statement (.quantize f st) := opField_mkCommand _ _ _
theorem EncodeOpcode.enterTx (f : Hz) : EncodeOpcode.Statement (.enterTx f) := opField_mkCommand _ _ _
theorem EncodeOpcode.enterRx (f : Hz) : EncodeOpcode.Statement (.enterRx f) := opField_mkCommand _ _ _
theorem EncodeOpcode.setOffsetHz (v : BitVec 32) : EncodeOpcode.Statement (.setOffsetHz v) := opField_mkCommand _ _ _
theorem EncodeOpcode.setOffsetPpm (v : BitVec 32) : EncodeOpcode.Statement (.setOffsetPpm v) := opField_mkCommand _ _ _
theorem EncodeOpcode.readSq : EncodeOpcode.Statement .readSq := opField_mkCommand _ _ _
theorem EncodeOpcode.detect : EncodeOpcode.Statement .detect := opField_mkCommand _ _ _
theorem EncodeOpcode.agc : EncodeOpcode.Statement .agc := opField_mkCommand _ _ _
theorem EncodeOpcode.smeter : EncodeOpcode.Statement .smeter := opField_mkCommand _ _ _
theorem EncodeOpcode.setSql (l : BitVec 8) : EncodeOpcode.Statement (.setSql l) := opField_mkCommand _ _ _
theorem EncodeOpcode.setGain (l : BitVec 8) : EncodeOpcode.Statement (.setGain l) := opField_mkCommand _ _ _
theorem EncodeOpcode.dynWrite (k : BitVec 8) (m : RegValue) (v : RegValue) : EncodeOpcode.Statement (.dynWrite k m v) := opField_mkCommand _ _ _
theorem EncodeOpcode.isError : EncodeOpcode.Statement .isError := opField_mkCommand _ _ _
theorem EncodeOpcode.chipReset : EncodeOpcode.Statement .chipReset := opField_mkCommand _ _ _
theorem EncodeOpcode.tick : EncodeOpcode.Statement .tick := opField_mkCommand _ _ _
theorem EncodeOpcode.reserved12 : EncodeOpcode.Statement .reserved12 := opField_mkCommand _ _ _
theorem EncodeOpcode.reserved13 : EncodeOpcode.Statement .reserved13 := opField_mkCommand _ _ _
theorem EncodeOpcode.reserved14 : EncodeOpcode.Statement .reserved14 := opField_mkCommand _ _ _
theorem EncodeOpcode.reserved15 : EncodeOpcode.Statement .reserved15 := opField_mkCommand _ _ _
theorem EncodeOpcode.reserved16 : EncodeOpcode.Statement .reserved16 := opField_mkCommand _ _ _
theorem EncodeOpcode.reserved17 : EncodeOpcode.Statement .reserved17 := opField_mkCommand _ _ _
theorem EncodeOpcode.reserved18 : EncodeOpcode.Statement .reserved18 := opField_mkCommand _ _ _
theorem EncodeOpcode.reserved19 : EncodeOpcode.Statement .reserved19 := opField_mkCommand _ _ _
theorem EncodeOpcode.reserved1A : EncodeOpcode.Statement .reserved1A := opField_mkCommand _ _ _
theorem EncodeOpcode.reserved1B : EncodeOpcode.Statement .reserved1B := opField_mkCommand _ _ _
theorem EncodeOpcode.reserved1C : EncodeOpcode.Statement .reserved1C := opField_mkCommand _ _ _
theorem EncodeOpcode.reserved1D : EncodeOpcode.Statement .reserved1D := opField_mkCommand _ _ _
theorem EncodeOpcode.reserved1E : EncodeOpcode.Statement .reserved1E := opField_mkCommand _ _ _
theorem EncodeOpcode.reserved1F : EncodeOpcode.Statement .reserved1F := opField_mkCommand _ _ _

end Sys2Proof.Laws
end

