-- ==== Sys2Proof/Laws/Tuning.lean ====
section
/-! SUPPORT. Everything the shared procedures of spec/41_tuning.md can do, each said once, and a run taken apart into its
steps. -/

namespace Sys2Proof.Machine

open Sys2Proof

/-- `Enter` (R133, R134): either no plan exists and nothing happens, or the class of the adjusted frequency gives the plan,
the whole sequence goes out, and these five elements take their values. -/
theorem enter_cases (tx : Bool) (f : Hz) (s : State) :
    (classify (adj s f) = none ∧ enterStatus tx f s = .unsupported ∧ enter tx f s = s) ∨
    ∃ d oks, classify (adj s f) = some d ∧ enterStatus tx f s = .ok ∧
      AnswersFor s (enterWrites s tx (planFor (lo tx (adj s f)) d)).length oks ∧
      enter tx f s = { afterAccesses ([.line (lineLevel s.cfg tx), .settle] ++
          eventsOf (enterWrites s tx (planFor (lo tx (adj s f)) d)) oks) oks s with
        isTx := tx, modeLine := lineLevel s.cfg tx,
        txFreq := if tx then some f else s.txFreq, rxFreq := if tx then s.rxFreq else some f,
        lastUserFreq := some f } := by
  cases h : classify (adj s f) with
  | none =>
    left
    simp [enterStatus, enter, plan, h, planStatus]
  | some d =>
    right
    refine ⟨d, _, rfl, by simp [enterStatus, plan, h, planStatus], answersFor_oksFrom _ _, ?_⟩
    simp only [enter, plan, h, Option.map_some, Option.elim, enterPlanned, writeAll_eq]
    simp [recordTuned, settle, setLine, afterAccesses, eventsOf, writeEvents, countFailures]

/-- `Retune` (R135): nothing where the active mode has no frequency, else `Enter` of the active mode with it. -/
theorem retune_cases (s : State) :
    (s.activeFreq = none ∧ retuneStatus s = .ok ∧ retune s = s) ∨
    ∃ f, s.activeFreq = some f ∧ retuneStatus s = enterStatus s.isTx f s ∧ retune s = enter s.isTx f s := by
  cases h : s.activeFreq with
  | none => left; simp [retuneStatus, retune, h]
  | some f => right; simp [retuneStatus, retune, h]

/-- One step of a run. -/
theorem core_run_succ (k : Nat) (s t : State) (h : step s = .next t) :
    Sys2Proof.core.run (k + 1) s = Sys2Proof.core.run k t := by
  have e := Host.Core.run.eq_2 Sys2Proof.core s k
  have h' : Host.Core.step Sys2Proof.core s = .next t := h
  rw [h'] at e
  exact e

/-- The cache after one entry took a value. -/
theorem dynAt_set (s t : State) (k j : Nat) (v : RegValue) (hk : k < s.dyn.length) (ht : t.dyn = s.dyn.set k v) :
    t.dynAt j = if k = j then v else s.dynAt j := by
  simp only [State.dynAt, ht, List.getD_eq_getElem?_getD, List.getElem?_set]
  split_ifs <;> simp_all

end Sys2Proof.Machine
end

