-- ==== Sys2Proof/Laws/WellFormed.lean ====
section
/-! SUPPORT. What a well-formed configuration gives, constraint by constraint. -/

namespace Sys2Proof.Cfg

open Sys2Proof.Machine

/-- All the checks at once. -/
theorem wf_iff (c : Cfg) : c.wf = true ↔
    c.wfFreqDistinct = true ∧ c.wfDynDistinct = true ∧ c.wfDynNotFreq = true ∧ c.wfSqNotFreq = true ∧
    c.wfNDyn = true ∧ c.wfSqFields = true ∧ c.wfGain = true ∧ c.wfSql = true ∧ c.wfSqlEnc = true ∧
    c.wfDisjoint = true ∧ c.wfTableRange = true ∧ c.wfTableSorted = true ∧ c.wfSqlReset = true ∧ c.wfErr = true ∧
    c.wfGainNotOwned = true ∧ c.wfSqlNotOwned = true := by
  simp only [wf, Bool.and_eq_true, and_assoc]

variable {c : Cfg} (h : c.wf = true)
include h

theorem wf_dynDistinct : (c.dynRegs.map DynReg.addr).Nodup := by
  simpa [wfDynDistinct] using ((wf_iff c).1 h).2.1

theorem wf_dynNotFreq : ∀ d ∈ c.dynRegs, d.addr ∉ c.freqAddrs := by
  simpa [wfDynNotFreq] using ((wf_iff c).1 h).2.2.1

theorem wf_gain : c.gainK < c.nDyn ∧ c.gainLsb ≤ 13 := by
  simpa [wfGain] using ((wf_iff c).1 h).2.2.2.2.2.2.1

theorem wf_sql : c.sqlK < c.nDyn ∧ c.sqlLsb + c.sqlWidth ≤ 16 := by
  simpa [wfSql] using ((wf_iff c).1 h).2.2.2.2.2.2.2.1

theorem wf_sqlEnc (i : Nat) (hi : i < 10) : c.sqlEnc[i].toNat < 2 ^ c.sqlWidth := by
  have := ((wf_iff c).1 h).2.2.2.2.2.2.2.2.1
  simp only [wfSqlEnc, List.all_eq_true, decide_eq_true_eq] at this
  exact this _ (by simp)

theorem wf_disjoint (e : c.gainK = c.sqlK) :
    c.sqlWidth = 0 ∨ c.gainLsb + 3 ≤ c.sqlLsb ∨ c.sqlLsb + c.sqlWidth ≤ c.gainLsb := by
  have := ((wf_iff c).1 h).2.2.2.2.2.2.2.2.2.1
  simp [wfDisjoint, fieldsDisjoint, e] at this
  omega

theorem wf_tableSorted : c.sqlTable.toList.Pairwise fun a b => a.toNat ≤ b.toNat := by
  simpa [wfTableSorted] using ((wf_iff c).1 h).2.2.2.2.2.2.2.2.2.2.2.1

theorem wf_sqlReset : c.sqlReset.toNat ≤ 9 := by
  simpa [wfSqlReset] using ((wf_iff c).1 h).2.2.2.2.2.2.2.2.2.2.2.2.1

/-- A bit of the gain field is none that DYN_WRITE owns (R86). -/
theorem wf_gainNotOwned (j : Nat) (h1 : c.gainLsb ≤ j) (h2 : j < c.gainLsb + 3) :
    (c.dynOwned c.gainK).getLsbD j = false := by
  have := ((wf_iff c).1 h).2.2.2.2.2.2.2.2.2.2.2.2.2.2.1
  exact and_fieldMask_zero (by simpa [wfGainNotOwned] using this) j h1 h2

/-- A bit of the squelch field is none that DYN_WRITE owns (R86). -/
theorem wf_sqlNotOwned (j : Nat) (h1 : c.sqlLsb ≤ j) (h2 : j < c.sqlLsb + c.sqlWidth) :
    (c.dynOwned c.sqlK).getLsbD j = false := by
  have := ((wf_iff c).1 h).2.2.2.2.2.2.2.2.2.2.2.2.2.2.2
  exact and_fieldMask_zero (by simpa [wfSqlNotOwned] using this) j h1 h2

omit h

/-- A conforming DYN_WRITE masks only bits that DYN_WRITE owns. -/
theorem owned_of_conforms {c : Cfg} {k : BitVec 8} {mask : RegValue} (hc : dynWriteConforms c k mask = true) (j : Nat)
    (hj : mask.getLsbD j = true) : (c.dynOwned k.toNat).getLsbD j = true := by
  have hz : mask &&& ~~~c.dynOwned k.toNat = 0 := by simpa [dynWriteConforms] using hc
  have := congrArg (fun x : RegValue => x.getLsbD j) hz
  simp only [BitVec.getLsbD_and, hj, BitVec.getLsbD_not, BitVec.lt_of_getLsbD hj] at this
  simpa using this

/-- The address of a dynamic register that exists is that register's. -/
theorem dynAddr_of_lt (c : Cfg) (k : Nat) (hk : k < c.nDyn) : ∃ d ∈ c.dynRegs, dynAddr c k = d.addr :=
  ⟨c.dynRegs[k]'hk, List.getElem_mem hk, by
    simp [dynAddr, show k < c.dynRegs.length from hk]; rfl⟩

end Sys2Proof.Cfg
end

