-- ==== Sys2Proof/Tests/Slice0.lean ====
section
/-! SUPPORT. The model's own tests. Expected results are those of spec/95_test_vectors.md, whose section each group names,
under the configuration of its section 1. Then, for every statement with hypotheses, states and operands that meet them. -/

namespace Sys2Proof.Tests

open Sys2Proof Sys2Proof.Machine

/-! ## The well-formedness check (R56, R83 to R86; 92_eei_decisions.md D15, D23, D26): one bad term per check -/

theorem test_wf_standard : Cfg.standard.wf = true := by decide

theorem test_wf_freqDistinct : ({ Cfg.standard with regTwl := 0x31 } : Cfg).wfFreqDistinct = false ∧
    ({ Cfg.standard with regTwl := 0x31 } : Cfg).wf = false := by decide

theorem test_wf_dynDistinct : ({ Cfg.standard with dynRegs := [⟨0x50, 0, 0⟩, ⟨0x50, 0x37, 0⟩] } : Cfg).wfDynDistinct = false ∧
    ({ Cfg.standard with dynRegs := [⟨0x50, 0, 0⟩, ⟨0x50, 0x37, 0⟩] } : Cfg).wf = false := by decide

theorem test_wf_dynNotFreq : ({ Cfg.standard with dynRegs := [⟨0x31, 0, 0⟩, ⟨0x51, 0x37, 0⟩] } : Cfg).wfDynNotFreq = false ∧
    ({ Cfg.standard with dynRegs := [⟨0x31, 0, 0⟩, ⟨0x51, 0x37, 0⟩] } : Cfg).wf = false := by decide

theorem test_wf_sqNotFreq : ({ Cfg.standard with regSq := 0x30 } : Cfg).wfSqNotFreq = false ∧
    ({ Cfg.standard with regSq := 0x30 } : Cfg).wf = false := by decide

theorem test_wf_nDyn : ({ Cfg.standard with dynRegs := [] } : Cfg).wfNDyn = false ∧
    ({ Cfg.standard with dynRegs := [] } : Cfg).wf = false := by decide

theorem test_wf_sqFields_rssiLsb : ({ Cfg.standard with rssiLsb := 9, snrLsb := 0 } : Cfg).wfSqFields = false ∧
    ({ Cfg.standard with rssiLsb := 9, snrLsb := 0 } : Cfg).wf = false := by decide

theorem test_wf_sqFields_overlap : ({ Cfg.standard with snrLsb := 7 } : Cfg).wfSqFields = false ∧
    ({ Cfg.standard with snrLsb := 7 } : Cfg).wf = false := by decide

theorem test_wf_gain_k : ({ Cfg.standard with gainK := 2 } : Cfg).wfGain = false ∧
    ({ Cfg.standard with gainK := 2 } : Cfg).wf = false := by decide

theorem test_wf_gain_lsb : ({ Cfg.standard with gainLsb := 14 } : Cfg).wfGain = false ∧
    ({ Cfg.standard with gainLsb := 14 } : Cfg).wf = false := by decide

theorem test_wf_sql_k : ({ Cfg.standard with sqlK := 2 } : Cfg).wfSql = false ∧
    ({ Cfg.standard with sqlK := 2 } : Cfg).wf = false := by decide

theorem test_wf_sql_width : ({ Cfg.standard with sqlLsb := 13 } : Cfg).wfSql = false ∧
    ({ Cfg.standard with sqlLsb := 13 } : Cfg).wf = false := by decide

theorem test_wf_sqlEnc : ({ Cfg.standard with sqlEnc := #v[0, 1, 2, 3, 4, 5, 6, 7, 8, 16] } : Cfg).wfSqlEnc = false ∧
    ({ Cfg.standard with sqlEnc := #v[0, 1, 2, 3, 4, 5, 6, 7, 8, 16] } : Cfg).wf = false := by decide

theorem test_wf_disjoint : ({ Cfg.standard with gainLsb := 2 } : Cfg).wfDisjoint = false ∧
    ({ Cfg.standard with gainLsb := 2 } : Cfg).wf = false := by decide

theorem test_wf_gainNotOwned : ({ Cfg.standard with dynRegs := [⟨0x50, 0, 0⟩, ⟨0x51, 0x37, 0x0004⟩] } : Cfg).wfGainNotOwned = false ∧
    ({ Cfg.standard with dynRegs := [⟨0x50, 0, 0⟩, ⟨0x51, 0x37, 0x0004⟩] } : Cfg).wf = false := by decide

theorem test_wf_sqlNotOwned : ({ Cfg.standard with dynRegs := [⟨0x50, 0, 0⟩, ⟨0x51, 0x37, 0x0080⟩] } : Cfg).wfSqlNotOwned = false ∧
    ({ Cfg.standard with dynRegs := [⟨0x50, 0, 0⟩, ⟨0x51, 0x37, 0x0080⟩] } : Cfg).wf = false := by decide

theorem test_wf_tableRange : ({ Cfg.standard with sqlTable := #v[59, 67, 74, 81, 88, 95, 102, 109, 116, 127] } : Cfg).wfTableRange = false ∧
    ({ Cfg.standard with sqlTable := #v[59, 67, 74, 81, 88, 95, 102, 109, 116, 127] } : Cfg).wf = false := by decide

theorem test_wf_tableSorted : ({ Cfg.standard with sqlTable := #v[60, 67, 74, 88, 81, 95, 102, 109, 116, 127] } : Cfg).wfTableSorted = false ∧
    ({ Cfg.standard with sqlTable := #v[60, 67, 74, 88, 81, 95, 102, 109, 116, 127] } : Cfg).wf = false := by decide

theorem test_wf_sqlReset : ({ Cfg.standard with sqlReset := 10 } : Cfg).wfSqlReset = false ∧
    ({ Cfg.standard with sqlReset := 10 } : Cfg).wf = false := by decide

theorem test_wf_err_zero : ({ Cfg.standard with errThreshold := 0 } : Cfg).wfErr = false ∧
    ({ Cfg.standard with errThreshold := 0 } : Cfg).wf = false := by decide

theorem test_wf_err_large : ({ Cfg.standard with errThreshold := 256 } : Cfg).wfErr = false ∧
    ({ Cfg.standard with errThreshold := 256 } : Cfg).wf = false := by decide

/-- R86, 93_implementation_defined.md item 13: a mask over the squelch or the gain field is not a conforming host's, that of
R175's example is. -/
theorem test_dynWriteConforms : dynWriteConforms Cfg.standard 1 0x0010 = false ∧
    dynWriteConforms Cfg.standard 1 0x0001 = false ∧ dynWriteConforms Cfg.standard 0 0x001F = true ∧
    dynWriteConforms Cfg.standard 0 0x0020 = false := by decide

/-! ## Decoding: a word written out from R70 to R73 for every constructor (section 3.1, and the programs of section 4) -/

theorem test_decode_reserved00 : decode 0x000000000000000000#69 = .reserved00 := by decide
theorem test_decode_classify : decode 0x010000000008BBB7C0#69 = .classify 146520000 := by decide
theorem test_decode_synth : decode 0x02FFFFFF0C08BBB7C0#69 = .synth 146520000 12 := by decide
theorem test_decode_quantize : decode 0x03000030D408BBC634#69 = .quantize 146523700 12500 := by decide
theorem test_decode_quantize_negative : decode 0x03FFFFFFFB08BBB7C0#69 = .quantize 146520000 (-5) := by decide
theorem test_decode_enterTx : decode 0x040000000008BBB7C0#69 = .enterTx 146520000 := by decide
theorem test_decode_enterRx : decode 0x050000000008A48640#69 = .enterRx 145000000 := by decide
theorem test_decode_setOffsetHz : decode 0x0600000000FFFFFC18#69 = .setOffsetHz (-1000) := by decide
theorem test_decode_setOffsetPpm : decode 0x0700000000000007D0#69 = .setOffsetPpm 2000 := by decide
theorem test_decode_readSq : decode 0x080000000000000000#69 = .readSq := by decide
theorem test_decode_detect : decode 0x09123456789ABCDEF0#69 = .detect := by decide
theorem test_decode_agc : decode 0x0A0000000000000000#69 = .agc := by decide
theorem test_decode_smeter : decode 0x0B0000000000000000#69 = .smeter := by decide
theorem test_decode_setSql : decode 0x0C00000000FFFFFF03#69 = .setSql 3 := by decide
theorem test_decode_setGain : decode 0x0D00000000000000C8#69 = .setGain 200 := by decide
theorem test_decode_dynWrite : decode 0x0EFFFF123400000002#69 = .dynWrite 2 0xFFFF 0x1234 := by decide
theorem test_decode_isError : decode 0x0F0000000000000000#69 = .isError := by decide
theorem test_decode_chipReset : decode 0x100000000000000000#69 = .chipReset := by decide
theorem test_decode_tick : decode 0x110000000000000000#69 = .tick := by decide
theorem test_decode_reserved12 : decode 0x120000000000000000#69 = .reserved12 := by decide
theorem test_decode_reserved13 : decode 0x130000000000000000#69 = .reserved13 := by decide
theorem test_decode_reserved14 : decode 0x140000000000000000#69 = .reserved14 := by decide
theorem test_decode_reserved15 : decode 0x150000000000000000#69 = .reserved15 := by decide
theorem test_decode_reserved16 : decode 0x160000000000000000#69 = .reserved16 := by decide
theorem test_decode_reserved17 : decode 0x170000000000000000#69 = .reserved17 := by decide
theorem test_decode_reserved18 : decode 0x180000000000000000#69 = .reserved18 := by decide
theorem test_decode_reserved19 : decode 0x190000000000000000#69 = .reserved19 := by decide
theorem test_decode_reserved1A : decode 0x1A0000000000000000#69 = .reserved1A := by decide
theorem test_decode_reserved1B : decode 0x1B0000000000000000#69 = .reserved1B := by decide
theorem test_decode_reserved1C : decode 0x1C0000000000000000#69 = .reserved1C := by decide
theorem test_decode_reserved1D : decode 0x1D0000000000000000#69 = .reserved1D := by decide
theorem test_decode_reserved1E : decode 0x1E0000000000000000#69 = .reserved1E := by decide
theorem test_decode_reserved1F : decode 0x1F0000000000000000#69 = .reserved1F := by decide

/-- The bytes of a command (log entry 6): op, then a0, then a1, least significant byte first. -/
theorem test_bytes_dynWrite : decodeBytes [0x0E, 0x02, 0x00, 0x00, 0x00, 0x34, 0x12, 0xCD, 0xAB] =
    .ok (.dynWrite 2 0xABCD 0x1234) := by decide

theorem test_bytes_short : decodeBytes [0x0E, 0x02, 0x00, 0x00, 0x00, 0x34, 0x12, 0xCD] = .error .wrongLength := by decide
theorem test_bytes_long : decodeBytes [0x0E, 0, 0, 0, 0, 0, 0, 0, 0, 0] = .error .wrongLength := by decide
theorem test_bytes_stray : decodeBytes [0x20, 0, 0, 0, 0, 0, 0, 0, 0] = .error .strayBits := by decide
theorem test_table_word : decodeTableWord 8 0x11 = some .tick ∧ decodeTableWord 5 0x1F = some .reserved1F := by decide

/-! ## The assembler (R78; the lines and written forms of section 4) -/

/-- The written form of the word a line assembles to, empty where it does not. -/
def written (line : String) : List Char := ((assemble 0 line.toList).toOption.map writtenForm).getD []

theorem test_asm_mhz : written "CLASSIFY 146.52MHz" = "01:00000000:08BBB7C0".toList := by decide +kernel
theorem test_asm_signed : written "SET_OFFSET_HZ -2147483648" = "06:00000000:80000000".toList := by decide +kernel
theorem test_asm_dyn : written "DYN_WRITE 0, 0x001F, 0x0011" = "0E:001F0011:00000000".toList := by decide +kernel
theorem test_asm_ppm : written "SET_OFFSET_PPM_F -2.5" = "07:00000000:FFFFF63C".toList := by decide +kernel
theorem test_asm_not_exact : assemble 0 "ENTER_TX 146.5200001MHz".toList = .error .notExact := by decide +kernel
theorem test_asm_retune : assembleInstr (BitVec.ofInt 64 (-10 ^ 12)) "RETUNE".toList = .ok (.setOffsetHz (-1000)) ∧
    assembleInstr 290000000001 "RETUNE".toList = .error .offsetNotWholeHz := by decide +kernel

/-! ## One operation each, from small states -/

/-- The operation answers a next state with the property. -/
def runs (i : Instr) (s : State) (p : State → Bool) : Bool :=
  match exec i s with
  | .next t => p t
  | .fault _ => false
  | .refused _ => false

/-- Power-on with n accesses that succeed, a read giving 0. -/
def powered (n : Nat) : State := { State.reset with answers := List.replicate n ⟨true, 0⟩ }

/-- Tuned to RX at a frequency, with n accesses that succeed. -/
def tunedRx (f : Hz) (n : Nat) : State := { powered n with rxFreq := some f, lastUserFreq := some f }

/-- Tuned to TX at a frequency, with n accesses that succeed. -/
def tunedTx (f : Hz) (n : Nat) : State :=
  { powered n with isTx := true, modeLine := true, txFreq := some f, lastUserFreq := some f }

/-- The response a state shows. -/
def answered (t : State) (st : Status) (r0 : BitVec 64) (r1 : BitVec 32) : Bool := t.rsp = some ⟨st, r0, r1⟩

/-- The RX sequence of section 4 with the two halves of its word and the answer to its second write. -/
def rxEvents (h l : RegValue) (ok : Bool) : List BusEvent :=
  [.line false, .settle, .write 0x11 0x2222 true, .write 0x12 0x3333 ok, .write 0x50 0 true, .write 0x51 0x37 true,
    .write 0x30 0x2004 true, .write 0x31 h true, .write 0x32 l true]

/-- The TX sequence of section 4 with its divider code and the two halves of its word. -/
def txEvents (code h l : RegValue) : List BusEvent :=
  [.line true, .settle, .write 0x10 0x1111 true, .write 0x12 0x3333 true, .write 0x50 0 true, .write 0x51 0x37 true,
    .write 0x30 code true, .write 0x31 h true, .write 0x32 l true]

/-! Section 2.1 -/

theorem test_classify_row1_exclusive : runs (.classify 384000000) State.reset (answered · .unsupported 0 0) = true := by
  decide +kernel
theorem test_classify_overlap : runs (.classify 46000000) State.reset (answered · .ok 36 0x8008) = true := by decide +kernel

/-! Section 3.2 -/

theorem test_synth : runs (.synth 146520000 12) State.reset (answered · .ok 0x52BD9EE7 0x52BD9EE7) = true := by decide +kernel
theorem test_synth_overflow : runs (.synth 1360000000 4) State.reset (answered · .overflow 0 0) = true := by decide +kernel
theorem test_quantize_tie : runs (.quantize 146518750 12500) State.reset (answered · .ok 146525000 0) = true := by decide +kernel
theorem test_quantize_wide : runs (.quantize 4294967295 1000000) State.reset (answered · .ok 4295000000 0) = true := by
  decide +kernel

/-! Section 3.3, P1, P2, P5, P6 -/

theorem test_enterTx : runs (.enterTx 146520000) (powered 7)
    (fun t => t.trace = txEvents 0x2004 0x52BD 0x9EE7 && t.isTx && t.modeLine) = true := by decide +kernel
theorem test_enterTx_unsupported : runs (.enterTx 512000000) { State.reset with offset := 1000000000000 }
    (fun t => answered t .unsupported 0 0 && t.trace = [] && !t.isTx) = true := by decide +kernel
theorem test_enterRx_failing_write : runs (.enterRx 145000000)
    { powered 0 with answers := ⟨true, 0⟩ :: ⟨false, 0⟩ :: List.replicate 5 ⟨true, 0⟩ }
    (fun t => t.trace = rxEvents 0x51CE 0x13B6 false && t.errCount = 1 && answered t .ok 0 0) = true := by decide +kernel
theorem test_enterRx_class_of_rf : runs (.enterRx 128050000) (powered 7)
    (fun t => t.trace = rxEvents 0x483B 0xB48A true) = true := by decide +kernel
theorem test_setOffsetHz : runs (.setOffsetHz 500) (tunedRx 145000000 7)
    (fun t => t.trace = rxEvents 0x51CE 0x2637 true && answered t .ok 0x746A528800 0) = true := by decide +kernel
theorem test_setOffsetHz_clamp : runs (.setOffsetHz 0x80000000) (tunedRx 145000000 7)
    (fun t => t.trace = rxEvents 0x51C6 0xD948 true && answered t .ok 0xFFFFD28677C2E000 0) = true := by decide +kernel
theorem test_setOffsetPpm_noFreq : runs (.setOffsetPpm 2000) State.reset
    (fun t => answered t .noFreq 0 0 && t.offset = 0) = true := by decide +kernel
theorem test_setOffsetPpm_tx : runs (.setOffsetPpm 200000) (tunedTx 446000000 7)
    (fun t => t.trace = txEvents 0x0002 0x53F6 0x5CC3 && answered t .ok 0x2D79883D2000 0) = true := by decide +kernel

/-! Section 3.4 -/

theorem test_readSq : runs .readSq { State.reset with answers := [⟨true, 0xFFFF⟩] }
    (fun t => answered t .ok 255 63 && t.trace = [.read 0x40 0xFFFF true]) = true := by decide +kernel
theorem test_readSq_fail : runs .readSq { State.reset with rssi := 9, snr := 9, answers := [⟨false, 0xFFFF⟩] }
    (fun t => answered t .ok 0 0 && t.rssi = 0 && t.snr = 0 && t.errCount = 1) = true := by decide +kernel

/-- Section 2.3's configuration: thr = 80. -/
def thr80 : State :=
  { State.reset with cfg := { Cfg.standard with sqlTable := #v[60, 67, 74, 80, 88, 95, 102, 109, 116, 127] } }

theorem test_detect_rise : runs .detect { thr80 with rssi := 100, snr := 10, filt := 246964 / 3125 }
    (fun t => t.filt = 1300356 / 15625 && t.det) = true := by decide +kernel
theorem test_detect_hold : runs .detect { thr80 with rssi := 77, snr := 2, filt := 80, det := true }
    (fun t => t.filt = 391 / 5 && t.det) = true := by decide +kernel
theorem test_smeter_6 : runs .smeter { State.reset with rssi := 100 } (answered · .ok 6 0) = true := by decide +kernel
theorem test_smeter_edge : runs .smeter { State.reset with rssi := 127 } (answered · .ok 10 0) = true := by decide +kernel
theorem test_agc_overload : runs .agc { powered 1 with det := true, rssi := 126, dyn := [0, 0x34] }
    (fun t => t.dyn = [0, 0x33] && t.trace = [.write 0x51 0x33 true] && answered t .ok 3 1) = true := by decide +kernel
theorem test_agc_no_change : runs .agc { powered 1 with det := true, rssi := 81 }
    (fun t => t.trace = [] && answered t .ok 7 0) = true := by decide +kernel
theorem test_setSql_clamp : runs (.setSql 10) (powered 1)
    (fun t => t.dyn = [0, 0x97] && t.sqlIndex = 9 && t.trace = [.write 0x51 0x97 true] && answered t .ok 9 0) = true := by
  decide +kernel
theorem test_setGain_clamp : runs (.setGain 200) (powered 1)
    (fun t => t.trace = [.write 0x51 0x37 true] && answered t .ok 7 0) = true := by decide +kernel
theorem test_dynWrite : runs (.dynWrite 1 0x0007 0x0001) (powered 1)
    (fun t => t.dyn = [0, 0x31] && t.gain = 1 && answered t .ok 0x31 0) = true := by decide +kernel
theorem test_dynWrite_badIndex : runs (.dynWrite 2 0xFFFF 0x1234) (powered 1)
    (fun t => t.trace = [] && answered t .badIndex 0 0) = true := by decide +kernel

/-! Section 3.5, P3, P5, P6 -/

theorem test_isError : runs .isError { State.reset with errCount := 255 } (answered · .ok 1 255) = true := by decide +kernel
theorem test_chipReset : runs .chipReset { tunedRx 145000000 7 with errCount := 1 }
    (fun t => t.trace = rxEvents 0x51CE 0x13B6 true && t.errCount = 0 && answered t .ok 0 0) = true := by decide +kernel
theorem test_chipReset_unsupported : runs .chipReset
    { tunedTx 512000000 0 with rxFreq := some 170000000, offset := 1000000000000, errCount := 1 }
    (fun t => t.trace = [] && t.isTx && t.errCount = 0 && answered t .unsupported 0 0) = true := by decide +kernel
theorem test_tick_overload : runs .tick
    { State.reset with rssi := 100, snr := 10, filt := 1300356 / 15625, answers := [⟨true, 0x0A82⟩, ⟨true, 0⟩] }
    (fun t => t.trace = [.read 0x40 0x0A82 true, .write 0x51 0x36 true] && t.filt = 7232674 / 78125 &&
      answered t .ok 0xAD 0) = true := by decide +kernel
theorem test_tick_reset_first : runs .tick
    { tunedRx 145000000 0 with errCount := 1, answers := List.replicate 7 ⟨true, 0⟩ ++ [⟨true, 0x0A64⟩] }
    (fun t => t.trace = rxEvents 0x51CE 0x13B6 true ++ [.read 0x40 0x0A64 true] && answered t .ok 0x6E 0) = true := by
  decide +kernel
theorem test_reserved : runs .reserved00 State.reset (answered · .illegal 0 0) = true ∧
    runs .reserved12 State.reset (answered · .illegal 0 0) = true ∧
    runs .reserved1F State.reset (answered · .illegal 0 0) = true := by decide +kernel

/-! ## Steps -/

/-- The first command after reset (log entry 4): IS_ERROR at power-on gives OK 0 0 (section 3.5). -/
theorem test_step_first : (match step (State.reset.withFetchWord 8 0x0F) with
    | .next t => answered t .ok 0 0 && t.cmds = []
    | .fault _ => false
    | .refused _ => false) = true := by decide +kernel

theorem test_step_idle : step State.reset = .next State.reset := rfl

/-! ## Witnesses: for every statement with hypotheses, states and operands that meet them together -/

theorem reset_inv : State.reset.Inv :=
  ⟨by decide, by decide, by decide, by decide, by decide +kernel, by decide, by decide, by decide, by decide⟩

theorem tunedRx_inv : (tunedRx 145000000 0).Inv :=
  ⟨by decide, by decide, by decide, by decide, by decide +kernel, by decide, by decide, by decide, by decide⟩

theorem tunedTx_inv : (tunedTx 512000000 0).Inv :=
  ⟨by decide, by decide, by decide, by decide, by decide +kernel, by decide, by decide, by decide, by decide⟩

theorem witness_IgnoredFieldsHaveNoEffect :
    (∀ op ∈ [0x00#5, 0x08, 0x0B, 0x0F, 0x1F], op = 0 ∨ op ∈ [0x08, 0x09, 0x0A, 0x0B] ∨ 0x0F ≤ op.toNat) ∧
    (∀ op ∈ [0x01#5, 0x04, 0x07], op ∈ [0x01, 0x04, 0x05, 0x06, 0x07]) ∧
    (0xFFFFFF0C#32).extractLsb' 0 8 = (0x0000000C#32).extractLsb' 0 8 ∧ (0x0C#5) ∈ [0x0C#5, 0x0D] ∧
    (0xFFFFFFFF#32).extractLsb' 0 8 = (0x000000FF#32).extractLsb' 0 8 := by decide

theorem witness_RetuneLineKeepsOffset : (tunedRx 145000000 0).Inv ∧
    assembleInstr (tunedRx 145000000 0).offset "RETUNE".toList = .ok (.setOffsetHz 0) ∧
    ∃ t, exec (.setOffsetHz 0) (tunedRx 145000000 0) = .next t := ⟨tunedRx_inv, by decide +kernel, _, rfl⟩

/-- A state with one command presented. -/
def presented (i : Instr) (s : State) : State := { s with cmds := [encode i] }

theorem witness_StepRunsDecodedCommand : (presented .tick State.reset).cfg.wf = true ∧
    (presented .tick State.reset).cmds = encode .tick :: [] := ⟨by decide, rfl⟩

/-- An ill-formed configuration with a command presented. -/
def illFormed : State := { presented .tick State.reset with cfg := { Cfg.standard with errThreshold := 0 } }

theorem witness_StepIdleOrRefused : State.reset.cmds = [] ∧ illFormed.cmds ≠ [] ∧ illFormed.cfg.wf = false :=
  ⟨rfl, by decide, by decide⟩

theorem presented_inv (i : Instr) (s : State) (h : s.Inv) : (presented i s).Inv :=
  ⟨h.cfgWf, h.dynLength, h.offsetBound, h.sqlIndexBound, h.filtBound, h.smeterBound, h.lineAgrees, h.lastIsActive,
    h.txTuned⟩

theorem witness_StepKeepsInvariants : (presented .tick (tunedTx 512000000 0)).Inv ∧
    ∃ t, step (presented .tick (tunedTx 512000000 0)) = .next t := ⟨presented_inv _ _ tunedTx_inv, _, rfl⟩

theorem witness_PowerOnMeetsInvariants : Cfg.standard.wf = true := by decide

theorem witness_EveryRunIsSafe : (presented .tick State.reset).Inv ∧
    ∃ t, Sys2Proof.core.run 1 (presented .tick State.reset) = .next t := by
  refine ⟨presented_inv _ _ reset_inv, ?_⟩
  rw [core_run_succ 0 _ _ rfl]
  exact ⟨_, rfl⟩

/-- The hypothesis of the statements about every operation: a next state (TraceIsAppendOnly, ErrCountCountsFailures,
BusAccessesOfEachOperation, OnlyTheNamedWriters, BoundedBusEvents). -/
theorem witness_next : ∀ i ∈ [Instr.tick, .readSq, .setSql 255, .setGain 255, .dynWrite 1 0xFFFF 0, .agc, .isError, .chipReset],
    ∃ t, exec i State.reset = .next t := fun i _ => ⟨_, exec_eq_leaves i State.reset⟩

theorem witness_BusAccessesOfEachOperation : (1#8).toNat < State.reset.cfg.nDyn := by decide

theorem witness_AnswersReachOnlyErrorsAndTrace :
    (∃ t, exec (.enterRx 145000000) State.reset = .next t) ∧
    ∃ u, exec (.enterRx 145000000) { State.reset with answers := [⟨false, 0⟩], draws := 5 } = .next u :=
  ⟨⟨_, rfl⟩, _, rfl⟩

/-- ErrorStatusesArePrecise, StatusesOfEachOperation: each status but OK is answered. -/
theorem witness_statuses : runs (.enterTx 33000000) State.reset (answered · .unsupported 0 0) = true ∧
    runs (.setOffsetHz 1000) (tunedTx 512000000 0) (answered · .unsupported 0xE8D4A51000 0) = true ∧
    runs .chipReset { tunedTx 512000000 0 with rxFreq := some 33000000 } (answered · .unsupported 0 0) = true ∧
    runs (.setOffsetPpm 1) State.reset (answered · .noFreq 0 0) = true ∧
    runs (.synth 4294967295 255) State.reset (answered · .overflow 0 0) = true ∧
    runs .reserved1E State.reset (answered · .illegal 0 0) = true ∧
    runs (.dynWrite 255 0 0) State.reset (answered · .badIndex 0 0) = true := by decide +kernel

theorem witness_SynthResult : (0xFFFFFF0C#32).extractLsb' 0 8 = 12#8 := by decide

/-- TuningWordRange, SynthesisRoundTrip: accepted frequencies at the ends of the range. -/
theorem witness_classify : classify (24 * 10 ^ 15) = some ⟨64, 0xC00F⟩ ∧ classify (57 * 10 ^ 15) = some ⟨36, 0x8008⟩ ∧
    classify (512 * 10 ^ 15) = some ⟨4, 0x0002⟩ := by decide +kernel

/-- EnterTxResult, EnterRxResult: both ends of every row. -/
theorem witness_BandRow : BandRow (384 * 10 ^ 15 + 1) 4 0x0002 ∧ BandRow (512 * 10 ^ 15) 4 0x0002 ∧
    BandRow (128 * 10 ^ 15) 12 0x2004 ∧ BandRow (170 * 10 ^ 15) 12 0x2004 ∧
    BandRow (43 * 10 ^ 15) 36 0x8008 ∧ BandRow (57 * 10 ^ 15) 36 0x8008 ∧
    BandRow (35 * 10 ^ 15) 44 0xA00A ∧ BandRow (43 * 10 ^ 15 - 1) 44 0xA00A ∧
    BandRow (24 * 10 ^ 15) 64 0xC00F ∧ BandRow (32 * 10 ^ 15) 64 0xC00F := by
  unfold BandRow; norm_num

theorem witness_EnterResult : BandRow ((512000000#32).toNat * 10 ^ 9 + (powered 7).offset.toInt) 4 0x0002 := by
  have h : (powered 7).offset.toInt = 0 := by decide
  rw [h]; unfold BandRow; norm_num

/-- EnterTxResult, EnterRxResult, FailedEnterChangesNothing: no row at the end row 1 excludes, nor just past row 2. -/
theorem witness_noBandRow : (∀ r code, ¬BandRow ((384000000#32).toNat * 10 ^ 9 + (powered 7).offset.toInt) r code) ∧
    ∀ r code, ¬BandRow ((170000001#32).toNat * 10 ^ 9 + (powered 7).offset.toInt) r code := by
  have h : (powered 7).offset.toInt = 0 := by decide
  rw [h]
  constructor <;> (intro r code; unfold BandRow; norm_num)

/-- SetOffsetHzRetunes, SetOffsetPpmRetunes: nothing tuned, tuned in RX, tuned in TX. -/
theorem witness_SetOffset : (if State.reset.isTx then State.reset.txFreq else State.reset.rxFreq) = none ∧
    State.reset.lastUserFreq = none ∧
    (if (tunedRx 145000000 0).isTx then (tunedRx 145000000 0).txFreq else (tunedRx 145000000 0).rxFreq) =
      some 145000000 ∧
    (if (tunedTx 512000000 0).isTx then (tunedTx 512000000 0).txFreq else (tunedTx 512000000 0).rxFreq) =
      some 512000000 ∧ (tunedTx 512000000 0).lastUserFreq = some 512000000 := by decide

/-- SetOffsetPpmRetunes: a last user frequency with the active mode untuned (a state no run reaches). -/
theorem witness_SetOffsetPpm_untuned : ({ State.reset with lastUserFreq := some 1 } : State).lastUserFreq = some 1 ∧
    ({ State.reset with lastUserFreq := some 1 } : State).rxFreq = none := by decide

theorem witness_PpmTwiceIsTheSame : (tunedTx 512000000 0).Inv ∧
    ∃ t u, exec (.setOffsetPpm (-1)) (tunedTx 512000000 0) = .next t ∧ exec (.setOffsetPpm (-1)) t = .next u :=
  ⟨tunedTx_inv, _, _, rfl, rfl⟩

theorem witness_FrequencyRegistersHoldThePlan : (tunedRx 145000000 0).Inv ∧
    (∃ t, exec .chipReset (tunedRx 145000000 0) = .next t) ∧ BlocksAvoidFreq (tunedRx 145000000 0).cfg :=
  ⟨tunedRx_inv, ⟨_, rfl⟩, by unfold BlocksAvoidFreq; decide⟩

/-- A state after ENTER_RX 145000000 at offset 0 and a later offset whose words were not written. -/
def tuned : State := { tunedRx 145000000 0 with trace := rxEvents 0x51CE 0x13B6 true, offset := 1000000000000 }

theorem witness_StepKeepsTunedTrace : (presented .chipReset tuned).Inv ∧ (presented .chipReset tuned).TunedTrace ∧
    ∃ t, step (presented .chipReset tuned) = .next t := by
  refine ⟨presented_inv _ _ ⟨by decide, by decide, by decide, by decide, by decide +kernel, by decide, by decide,
    by decide, by decide⟩, .inr ⟨(rxEvents 0x51CE 0x13B6 true).take 6, [], 145000000#32, 0, 12, 0x2004, [true, true, true],
    rfl, by norm_num, by norm_num, ?_, rfl, by decide +kernel, fun e he => nomatch he⟩, _, rfl⟩
  unfold BandRow; norm_num

/-- A state whose cache has been written to the chip. -/
def cached : State := { tunedRx 145000000 0 with trace := [.write 0x50 0 true, .write 0x51 0x37 false] }

theorem witness_StepKeepsCacheWritten : (presented (.setGain 1) cached).Inv ∧
    (presented (.setGain 1) cached).CacheWritten ∧ ∃ t, step (presented (.setGain 1) cached) = .next t := by
  refine ⟨presented_inv _ _ ⟨by decide, by decide, by decide, by decide, by decide +kernel, by decide, by decide,
    by decide, by decide⟩, ?_, _, rfl⟩
  intro k v hk h
  have hk : k < 2 := hk
  obtain rfl | rfl : k = 0 ∨ k = 1 := by omega
  · exact ((Option.some.inj ((by decide : lastWritten 0x50 cached.trace = some 0).symm.trans h)).symm)
  · exact ((Option.some.inj ((by decide : lastWritten 0x51 cached.trace = some 0x37).symm.trans h)).symm)

/-- DetectorRiseClosedForm, with n = 1: the first call stays at or below thr + 3 = 84. -/
theorem witness_DetectorRiseClosedForm :
    let s : State := { State.reset with rssi := 100, snr := 2, filt := 80, cmds := List.replicate 2 (encode .detect) }
    s.cfg.wf = true ∧ s.det = false ∧ 2 ≤ s.snr.toNat ∧ s.isTx = false ∧
      ∀ m, 1 ≤ m → m ≤ 1 →
        (s.rssi.toNat : Rat) - (s.rssi.toNat - s.filt) * (4 / 5) ^ m ≤ (s.thr.toNat : Rat) + 3 := by
  refine ⟨by decide, rfl, by decide, rfl, fun m h1 h2 => ?_⟩
  obtain rfl : m = 1 := by omega
  decide +kernel

theorem witness_SetSqlSetGain : (0xFFFFFF03#32).extractLsb' 0 8 = 3#8 ∧ (0x000000FF#32).extractLsb' 0 8 = 255#8 := by decide

theorem witness_SmeterResult : State.reset.cfg.wf = true := by decide

/-- AgcResult: a level kept and a level changed. -/
theorem witness_AgcResult : runs .agc { powered 1 with det := true, rssi := 125 } (answered · .ok 7 0) = true ∧
    runs .agc { powered 1 with det := true, rssi := 126 } (answered · .ok 6 1) = true := by decide +kernel

theorem witness_AgcMovesByOne : State.reset.Inv ∧ State.reset.det = false ∧
    ({ powered 1 with det := true, rssi := 126 } : State).cfg.agcLowStep = .plusOne ∧
    runs .agc { powered 1 with det := true, rssi := 126 } (fun t => t.gain.toNat < 7) = true ∧
    ({ powered 1 with det := true, rssi := 126 } : State).gain = 7 :=
  ⟨reset_inv, rfl, rfl, by decide +kernel, by decide⟩

theorem witness_DynWriteResult : State.reset.cfg.nDyn ≤ (2#8).toNat ∧ (1#8).toNat < State.reset.cfg.nDyn ∧
    (0xABCD1234#32).extractLsb' 16 16 = 0xABCD#16 ∧ (0xABCD1234#32).extractLsb' 0 16 = 0x1234#16 := by decide

theorem witness_GainAndSquelchFieldsApart : State.reset.Inv ∧ (∃ t, exec (.setGain 8) State.reset = .next t) ∧
    ∃ t, exec (.setSql 10) State.reset = .next t := ⟨reset_inv, ⟨_, rfl⟩, _, rfl⟩

theorem witness_ConformingDynWriteKeepsFields : State.reset.Inv ∧
    dynWriteConforms State.reset.cfg 0 0x001F = true ∧ ∃ t, exec (.dynWrite 0 0x001F 0xFFFF) State.reset = .next t :=
  ⟨reset_inv, by decide, _, rfl⟩

/-- OverlappingFieldsAreRefused: each clause at an end of a field. -/
theorem witness_OverlappingFieldsAreRefused : illFormed.cmds ≠ [] ∧
    (let c : Cfg := { Cfg.standard with gainLsb := 2 };
      c.gainK = c.sqlK ∧ (c.gainLsb ≤ 4 ∧ 4 < c.gainLsb + 3) ∧ c.sqlLsb ≤ 4 ∧ 4 < c.sqlLsb + c.sqlWidth) ∧
    (let c : Cfg := { Cfg.standard with dynRegs := [⟨0x50, 0, 0⟩, ⟨0x51, 0x37, 0x0084⟩] };
      (c.gainLsb ≤ 2 ∧ 2 < c.gainLsb + 3) ∧ (c.dynOwned c.gainK).getLsbD 2 = true ∧
      (c.sqlLsb ≤ 7 ∧ 7 < c.sqlLsb + c.sqlWidth) ∧ (c.dynOwned c.sqlK).getLsbD 7 = true) := by decide

theorem witness_ChipResetResult : State.reset.rxFreq = none ∧ (tunedRx 145000000 0).rxFreq = some 145000000 := by decide

theorem witness_ReservedCodesAreIllegal : opcode .reserved00 = 0 ∧ 0x12 ≤ (opcode .reserved12).toNat ∧
    0x12 ≤ (opcode .reserved1F).toNat ∧ ¬(opcode .tick = 0 ∨ 0x12 ≤ (opcode .tick).toNat) := by decide

end Sys2Proof.Tests
end

section
/-! PROOFS. The frequency synthesizer (spec/40_synthesizer.md): CLASSIFY, SYNTH and QUANTIZE, the band table, and the
range and accuracy of the tuning word. -/

namespace Sys2Proof.Machine

open Sys2Proof

/-! ## Decoding and running the three operations -/

theorem decode_classify_word (a1 a0 : BitVec 32) : decode (0x01#5 ++ a1 ++ a0) = .classify a0 := by
  change decode (mkCommand 0x01 a1 a0) = _
  simp [decode]

theorem decode_synth_word (a1 a0 : BitVec 32) :
    decode (0x02#5 ++ a1 ++ a0) = .synth a0 (a1.extractLsb' 0 8) := by
  change decode (mkCommand 0x02 a1 a0) = _
  simp [decode]

theorem decode_quantize_word (a1 a0 : BitVec 32) : decode (0x03#5 ++ a1 ++ a0) = .quantize a0 a1 := by
  change decode (mkCommand 0x03 a1 a0) = _
  simp [decode]

theorem exec_classify (f : Hz) (s : State) :
    exec (.classify f) s = .next { s with rsp := some (classifyResponse (classify (nhz f))) } :=
  exec_eq_leaves (.classify f) s

theorem exec_synth (f : Hz) (r : BitVec 8) (s : State) :
    exec (.synth f r) s = .next { s with rsp := some (synthResponse (tw (nhz f) r.toNat)) } :=
  exec_eq_leaves (.synth f r) s

theorem exec_quantize (f : Hz) (st : BitVec 32) (s : State) :
    exec (.quantize f st) s =
      .next { s with rsp := some ⟨.ok, BitVec.ofInt 64 (quantize f.toNat st.toInt), 0⟩ } :=
  exec_eq_leaves (.quantize f st) s

/-! ## The band table -/

theorem classify_of_bandRow {a : Int} {r : Nat} {code : RegValue} (h : BandRow a r code) :
    classify a = some ⟨r, code⟩ := by
  unfold classify nhzPerMHz
  obtain ⟨rfl, rfl, _, _⟩ | ⟨rfl, rfl, _, _⟩ | ⟨rfl, rfl, _, _⟩ | ⟨rfl, rfl, _, _⟩ | ⟨rfl, rfl, _, _⟩ := h
  · rw [if_pos (by omega)]
  · rw [if_neg (by omega), if_pos (by omega)]
  · rw [if_neg (by omega), if_neg (by omega), if_pos (by omega)]
  · rw [if_neg (by omega), if_neg (by omega), if_neg (by omega), if_pos (by omega)]
  · rw [if_neg (by omega), if_neg (by omega), if_neg (by omega), if_neg (by omega), if_pos (by omega)]

theorem bandRow_of_classify {a : Int} {d : DivClass} (h : classify a = some d) : BandRow a d.ratio d.code := by
  unfold classify nhzPerMHz at h
  split_ifs at h <;> cases h
  · exact .inl ⟨rfl, rfl, by omega, by omega⟩
  · exact .inr (.inl ⟨rfl, rfl, by omega, by omega⟩)
  · exact .inr (.inr (.inl ⟨rfl, rfl, by omega, by omega⟩))
  · exact .inr (.inr (.inr (.inl ⟨rfl, rfl, by omega, by omega⟩)))
  · exact .inr (.inr (.inr (.inr ⟨rfl, rfl, by omega, by omega⟩)))

/-- The first matching row of R100 is the row of the disjoint table: rows 3 and 4 overlap on [43, 46] MHz only, and row
3 comes first (R101, R102). -/
theorem classify_eq_some_iff (a : Int) (r : Nat) (code : RegValue) :
    classify a = some ⟨r, code⟩ ↔ BandRow a r code :=
  ⟨bandRow_of_classify, classify_of_bandRow⟩

theorem classify_eq_none_iff (a : Int) : classify a = none ↔ ¬∃ r code, BandRow a r code := by
  simp only [← classify_eq_some_iff, Option.eq_none_iff_forall_ne_some]
  exact ⟨fun h ⟨r, code, hd⟩ => h ⟨r, code⟩ hd, fun h d hd => h ⟨d.ratio, d.code, hd⟩⟩

/-- R102: the frequencies that some row of the table takes. -/
theorem exists_bandRow_iff (a : Int) : (∃ r code, BandRow a r code) ↔
    (384 * 10 ^ 15 < a ∧ a ≤ 512 * 10 ^ 15) ∨ (128 * 10 ^ 15 ≤ a ∧ a ≤ 170 * 10 ^ 15) ∨
      (35 * 10 ^ 15 ≤ a ∧ a ≤ 57 * 10 ^ 15) ∨ (24 * 10 ^ 15 ≤ a ∧ a ≤ 32 * 10 ^ 15) := by
  simp only [BandRow, exists_or, exists_and_left, exists_eq_left]
  omega

theorem classifyResponse_of_bandRow {a : Int} {r : Nat} {code : RegValue} (h : BandRow a r code) :
    classifyResponse (classify a) = ⟨.ok, BitVec.ofNat 64 r, code.setWidth 32⟩ := by
  rw [classify_of_bandRow h, classifyResponse]

theorem classifyResponse_of_no_bandRow {a : Int} (h : ¬∃ r code, BandRow a r code) :
    classifyResponse (classify a) = ⟨.unsupported, 0, 0⟩ := by
  rw [(classify_eq_none_iff a).2 h, classifyResponse]

/-- R106: the response by the frequency in Hz. -/
theorem classifyResponse_nhz (f : Hz) : classifyResponse (classify (nhz f)) =
    if 384000000 < f.toNat ∧ f.toNat ≤ 512000000 then ⟨.ok, 4, 0x0002⟩
    else if 128000000 ≤ f.toNat ∧ f.toNat ≤ 170000000 then ⟨.ok, 12, 0x2004⟩
    else if 43000000 ≤ f.toNat ∧ f.toNat ≤ 57000000 then ⟨.ok, 36, 0x8008⟩
    else if 35000000 ≤ f.toNat ∧ f.toNat < 43000000 then ⟨.ok, 44, 0xA00A⟩
    else if 24000000 ≤ f.toNat ∧ f.toNat ≤ 32000000 then ⟨.ok, 64, 0xC00F⟩
    else ⟨.unsupported, 0, 0⟩ := by
  have hf : nhz f = f.toNat * 10 ^ 9 := rfl
  split_ifs
  · exact classifyResponse_of_bandRow (.inl ⟨rfl, rfl, by omega, by omega⟩)
  · exact classifyResponse_of_bandRow (.inr (.inl ⟨rfl, rfl, by omega, by omega⟩))
  · exact classifyResponse_of_bandRow (.inr (.inr (.inl ⟨rfl, rfl, by omega, by omega⟩)))
  · exact classifyResponse_of_bandRow (.inr (.inr (.inr (.inl ⟨rfl, rfl, by omega, by omega⟩))))
  · exact classifyResponse_of_bandRow (.inr (.inr (.inr (.inr ⟨rfl, rfl, by omega, by omega⟩))))
  · exact classifyResponse_of_no_bandRow (by rw [exists_bandRow_iff]; omega)

/-- Every row brings the LO, times its ratio, into one range of products, which is what bounds the tuning word
(R104). -/
theorem bandRow_product {a : Int} {r : Nat} {code : RegValue} (h : BandRow a r code) :
    1536 * 10 ^ 15 ≤ a * r ∧ a * r ≤ 2052 * 10 ^ 15 ∧ r ≤ 64 := by
  obtain ⟨rfl, -, _, _⟩ | ⟨rfl, -, _, _⟩ | ⟨rfl, -, _, _⟩ | ⟨rfl, -, _, _⟩ | ⟨rfl, -, _, _⟩ := h <;> omega

/-! ## The tuning word -/

theorem tw_eq_nearestWord (t : Int) (r : Nat) (ht : 0 ≤ t) : tw t r = nearestWord t r := tw_eq_div t r ht

/-- Rounding a quotient misses the numerator by at most half of the denominator. -/
theorem roundHA_div_near (n d : Int) (hd : 0 < d) : 2 * |roundHA ((n : Rat) / (d : Rat)) * d - n| ≤ d := by
  have hd' : (0 : Rat) < d := by exact_mod_cast hd
  have hscale : (roundHA ((n : Rat) / d) : Rat) * d - n = (roundHA ((n : Rat) / d) - (n : Rat) / d) * d := by
    field_simp
  have hrat : 2 * |(roundHA ((n : Rat) / d) : Rat) * d - n| ≤ d := by
    rw [hscale, abs_mul, abs_of_pos hd']
    linarith [mul_le_mul_of_nonneg_right (roundHA_near ((n : Rat) / d)) hd'.le]
  exact_mod_cast hrat

/-- R110, in exact integers, for every target and ratio. -/
theorem tw_near (t : Int) (r : Nat) : 2 * |tw t r * (85 * 10 ^ 15) - t * r * 2 ^ 26| ≤ 85 * 10 ^ 15 :=
  roundHA_div_near _ _ (by norm_num)

/-- R104 (a): 2^16 divides the left side and not the right one. -/
theorem product_ne_tie (p k : Int) : 2 * (p * 2 ^ 26) ≠ (2 * k + 1) * (85 * 10 ^ 15) := by omega

/-! ## QUANTIZE -/

theorem quantize_of_nonpos (f : Nat) (step : Int) (h : step ≤ 0) : quantize f step = f := if_pos h

/-- R109: the nearest multiple of a step is at most half a step above the frequency, so a 33-bit number holds it. -/
theorem quantize_range (f : Hz) (st : BitVec 32) :
    0 ≤ quantize f.toNat st.toInt ∧ quantize f.toNat st.toInt < 2 ^ 33 := by
  have hf := f.isLt
  have hst := BitVec.toInt_lt (x := st)
  rcases le_or_gt st.toInt 0 with h | h
  · rw [quantize_of_nonpos _ _ h]; omega
  · have hq : 0 ≤ (2 * (f.toNat : Int) + st.toInt) / (2 * st.toInt) := Int.ediv_nonneg (by omega) (by omega)
    have hle := Int.ediv_mul_le (2 * (f.toNat : Int) + st.toInt) (by omega : 2 * st.toInt ≠ 0)
    rw [mul_left_comm] at hle
    rw [quantize_eq_div _ _ h]
    exact ⟨by positivity, by omega⟩

end Sys2Proof.Machine

namespace Sys2Proof.Proofs

open Sys2Proof Sys2Proof.Machine

/-- Settles O22: the response in Hz is that of the row of the disjoint table. -/
theorem classifyResult : Obligations.ClassifyResult :=
  fun f s => ⟨fun a1 => decode_classify_word a1 f, by rw [exec_classify, classifyResponse_nhz]⟩

/-- Settles O23. A port frequency is not negative, so its word is the one by integer division. -/
theorem synthResult : Obligations.SynthResult := by
  intro f r s
  refine ⟨?_, ?_⟩
  · rintro a1 rfl
    exact decode_synth_word a1 f
  · rw [exec_synth, tw_eq_nearestWord _ _ (by unfold nhz nhzPerHz; positivity)]
    rfl

/-- Settles O24. -/
theorem quantizeResult : Obligations.QuantizeResult := by
  intro f st s
  obtain ⟨hnonneg, hlt⟩ := quantize_range f st
  obtain ⟨q, hq⟩ := Int.eq_ofNat_of_zero_le hnonneg
  refine ⟨decode_quantize_word st f, q, by omega, ?_, ?_⟩
  · rw [← hq]
    split_ifs with h
    · exact quantize_of_nonpos _ _ h
    · exact quantize_eq_div _ _ (by omega)
  · rw [exec_quantize, hq, BitVec.ofInt_natCast]

/-- Settles O25, through the rows of the disjoint table. -/
theorem supportedSet : Obligations.SupportedSet := by
  intro a
  refine ⟨?_, classify_eq_some_iff a⟩
  rw [← exists_bandRow_iff, ne_eq, classify_eq_none_iff, not_not]

/-- Settles O26: the word depends on the product of target and ratio alone, which `bandRow_product` bounds; the IF takes
at most 64 times 0.137 MHz off it. -/
theorem tuningWordRange : Obligations.TuningWordRange := by
  refine ⟨fun t r k => product_ne_tie (t * r) k, fun a d hd => ?_⟩
  obtain ⟨hlow, hhigh, hratio⟩ := bandRow_product (bandRow_of_classify hd)
  have ha : 24 * 10 ^ 15 ≤ a := by
    have := (exists_bandRow_iff a).1 ⟨_, _, bandRow_of_classify hd⟩
    omega
  rw [tw_eq_nearestWord _ _ (by omega), tw_eq_nearestWord _ _ (by omega)]
  unfold nearestWord
  rw [sub_mul]
  omega

/-- Settles O27. -/
theorem synthesisRoundTrip : Obligations.SynthesisRoundTrip :=
  fun a d _ => ⟨fun tx => tw_near (lo tx a) d.ratio, rfl⟩

end Sys2Proof.Proofs
end

section
/-! PROOFS. Tuning (spec/41_tuning.md): ENTER_TX, ENTER_RX, SET_OFFSET_HZ and SET_OFFSET_PPM. -/

namespace Sys2Proof.Machine

open Sys2Proof

/-! ## Decoding and running the four operations -/

theorem decode_enterTx_word (a1 a0 : BitVec 32) : decode (0x04#5 ++ a1 ++ a0) = .enterTx a0 := by
  change decode (mkCommand 0x04 a1 a0) = _
  simp [decode]

theorem decode_enterRx_word (a1 a0 : BitVec 32) : decode (0x05#5 ++ a1 ++ a0) = .enterRx a0 := by
  change decode (mkCommand 0x05 a1 a0) = _
  simp [decode]

theorem decode_setOffsetHz_word (a1 a0 : BitVec 32) : decode (0x06#5 ++ a1 ++ a0) = .setOffsetHz a0 := by
  change decode (mkCommand 0x06 a1 a0) = _
  simp [decode]

theorem decode_setOffsetPpm_word (a1 a0 : BitVec 32) : decode (0x07#5 ++ a1 ++ a0) = .setOffsetPpm a0 := by
  change decode (mkCommand 0x07 a1 a0) = _
  simp [decode]

/-- ENTER_TX and ENTER_RX at once: the operation of a mode runs `Enter` in that mode and answers its status. -/
theorem exec_enterMode (tx : Bool) (f : Hz) (s : State) :
    exec (if tx then .enterTx f else .enterRx f) s =
      .next { enter tx f s with rsp := some ⟨enterStatus tx f s, 0, 0⟩ } := by
  cases tx with
  | true => exact exec_eq_leaves (.enterTx f) s
  | false => exact exec_eq_leaves (.enterRx f) s

theorem exec_setOffsetHz (v : BitVec 32) (s : State) :
    exec (.setOffsetHz v) s = .next (offsetAndRetune (v.toInt * 10 ^ 9) s) :=
  exec_eq_leaves (.setOffsetHz v) s

theorem exec_setOffsetPpm_of_none (v : BitVec 32) {s : State} (h : s.lastUserFreq = none) :
    exec (.setOffsetPpm v) s = .next { s with rsp := some ⟨.noFreq, 0, 0⟩ } := by
  have hstate : afterSetOffsetPpm v s = finish .noFreq 0 0 s := by rw [afterSetOffsetPpm, h, Option.elim_none]
  exact (exec_eq_leaves (.setOffsetPpm v) s).trans (congrArg _ hstate)

theorem exec_setOffsetPpm_of_some (v : BitVec 32) {s : State} {g : Hz} (h : s.lastUserFreq = some g) :
    exec (.setOffsetPpm v) s = .next (offsetAndRetune (g.toNat * v.toInt) s) := by
  rw [exec_eq_leaves, leaves, afterSetOffsetPpm, h]
  rfl

/-! ## The writes of a mode switch -/

/-- The lowest row of the band table lies far above the IF, so the LO target is not negative in either mode. -/
theorem lo_nonneg_of_bandRow (tx : Bool) {a : Int} {r : Nat} {code : RegValue} (h : BandRow a r code) :
    0 ≤ lo tx a := by
  have ha := (exists_bandRow_iff a).1 ⟨r, code, h⟩
  have hif : ifNHz = 137000 * 10 ^ 9 := rfl
  unfold lo
  split <;> omega

/-- R131, R132: the three frequency writes of a plan, with the word by integer division. -/
theorem freqWrites_planFor (c : Cfg) {t : Int} (r : Nat) (code : RegValue) (ht : 0 ≤ t) :
    freqWrites c (planFor t ⟨r, code⟩) = tripleFor c code t r := by
  simp only [freqWrites, planFor, planOfWord, tripleFor, tw_eq_nearestWord t r ht]

/-- R133: every write of the sequence for a frequency in a band, in order. -/
theorem enterWrites_of_bandRow (s : State) (tx : Bool) {a : Int} {r : Nat} {code : RegValue} (h : BandRow a r code) :
    enterWrites s tx (planFor (lo tx a) ⟨r, code⟩) =
      (if tx then s.cfg.txBlock else s.cfg.rxBlock) ++ s.cfg.commonBlock ++
        List.zipWith (fun d v => RegWrite.mk d.addr v) s.cfg.dynRegs s.dyn ++ tripleFor s.cfg code (lo tx a) r := by
  rw [enterWrites, freqWrites_planFor _ _ _ (lo_nonneg_of_bandRow tx h), dynReplay]

/-! ## The result of an Enter, by the rows of the disjoint table -/

/-- R134. -/
theorem enter_of_no_bandRow (tx : Bool) {f : Hz} {s : State} (h : ∀ r code, ¬BandRow (adj s f) r code) :
    enterStatus tx f s = .unsupported ∧ enter tx f s = s := by
  rcases enter_cases tx f s with ⟨-, hstatus, hstate⟩ | ⟨d, -, hd, -⟩
  · exact ⟨hstatus, hstate⟩
  · exact absurd (bandRow_of_classify hd) (h d.ratio d.code)

/-- R133. -/
theorem enter_of_bandRow (tx : Bool) {f : Hz} {s : State} {r : Nat} {code : RegValue} (h : BandRow (adj s f) r code) :
    ∃ oks, AnswersFor s (enterWrites s tx (planFor (lo tx (adj s f)) ⟨r, code⟩)).length oks ∧
      enterStatus tx f s = .ok ∧
      enter tx f s = { afterAccesses ([.line (lineLevel s.cfg tx), .settle] ++
          eventsOf (enterWrites s tx (planFor (lo tx (adj s f)) ⟨r, code⟩)) oks) oks s with
        isTx := tx, modeLine := lineLevel s.cfg tx,
        txFreq := if tx then some f else s.txFreq, rxFreq := if tx then s.rxFreq else some f,
        lastUserFreq := some f } := by
  have hrow := classify_of_bandRow h
  rcases enter_cases tx f s with ⟨hnone, -, -⟩ | ⟨d, oks, hd, hstatus, hanswers, hstate⟩
  · rw [hrow] at hnone
    cases hnone
  · obtain rfl : ⟨r, code⟩ = d := Option.some.inj (hrow.symm.trans hd)
    exact ⟨oks, hanswers, hstatus, hstate⟩

/-- R136, R137: the operation of a mode on a frequency in no band. -/
theorem exec_enterMode_of_no_bandRow (tx : Bool) {f : Hz} {s : State} (h : ∀ r code, ¬BandRow (adj s f) r code) :
    exec (if tx then .enterTx f else .enterRx f) s = .next { s with rsp := some ⟨.unsupported, 0, 0⟩ } := by
  obtain ⟨hstatus, hstate⟩ := enter_of_no_bandRow tx h
  rw [exec_enterMode, hstatus, hstate]

/-- R136, R137: the operation of a mode on a frequency in a band: the whole sequence and the whole next state. -/
theorem exec_enterMode_of_bandRow (tx : Bool) {f : Hz} {s : State} {r : Nat} {code : RegValue}
    (h : BandRow (adj s f) r code) :
    ∃ oks, let ws := (if tx then s.cfg.txBlock else s.cfg.rxBlock) ++ s.cfg.commonBlock ++
        List.zipWith (fun d v => RegWrite.mk d.addr v) s.cfg.dynRegs s.dyn ++
        tripleFor s.cfg code (lo tx (adj s f)) r
      AnswersFor s ws.length oks ∧
      exec (if tx then .enterTx f else .enterRx f) s =
        .next { afterAccesses ([.line (lineLevel s.cfg tx), .settle] ++ eventsOf ws oks) oks s with
          isTx := tx, modeLine := lineLevel s.cfg tx,
          txFreq := if tx then some f else s.txFreq, rxFreq := if tx then s.rxFreq else some f,
          lastUserFreq := some f, rsp := some ⟨.ok, 0, 0⟩ } := by
  obtain ⟨oks, hanswers, hstatus, hstate⟩ := enter_of_bandRow tx h
  rw [enterWrites_of_bandRow s tx h] at hanswers hstate
  refine ⟨oks, hanswers, ?_⟩
  rw [exec_enterMode, hstatus, hstate]

/-! ## Setting the offset and the re-tune -/

/-- R138, R139: the stored offset is the clamped value. -/
theorem setOffset_toInt_eq (v : Int) (s : State) :
    (setOffset v s).offset.toInt = max (-(50000 * 10 ^ 9)) (min v (50000 * 10 ^ 9)) := by
  rw [setOffset_toInt, clamp, offsetMaxNHz, nhzPerHz]
  omega

/-- R135: with no frequency in the active mode the offset is kept and nothing is tuned. -/
theorem offsetAndRetune_of_none (v : Int) {s : State} (h : s.activeFreq = none) :
    offsetAndRetune v s =
      { s with offset := (setOffset v s).offset, rsp := some ⟨.ok, (setOffset v s).offset, 0⟩ } := by
  have hactive : (setOffset v s).activeFreq = none := h
  rw [offsetAndRetune, retuneStatus, retune, hactive]
  rfl

/-- R135: with a frequency in the active mode the state is that of the mode's own operation at it, under the new offset;
only the response shows the offset as well. -/
theorem offsetAndRetune_of_some (v : Int) {s : State} {f : Hz} (h : s.activeFreq = some f) :
    ∃ u st, exec (if s.isTx then .enterTx f else .enterRx f) { s with offset := (setOffset v s).offset } = .next u ∧
      u.rsp = some ⟨st, 0, 0⟩ ∧ offsetAndRetune v s = { u with rsp := some ⟨st, (setOffset v s).offset, 0⟩ } := by
  have hactive : (setOffset v s).activeFreq = some f := h
  refine ⟨_, _, exec_enterMode s.isTx f (setOffset v s), rfl, ?_⟩
  rw [offsetAndRetune, retuneStatus, retune, hactive]
  rfl

/-- What SET_OFFSET_HZ and SET_OFFSET_PPM share once the value in nHz is known: clamp, re-tune, response. -/
theorem offsetAndRetune_result {i : Instr} {v : Int} {s : State} (hi : exec i s = .next (offsetAndRetune v s)) :
    ∃ o : BitVec 64, o.toInt = max (-(50000 * 10 ^ 9)) (min v (50000 * 10 ^ 9)) ∧
      (s.activeFreq = none → exec i s = .next { s with offset := o, rsp := some ⟨.ok, o, 0⟩ }) ∧
      ∀ f, s.activeFreq = some f → ∃ u st,
        exec (if s.isTx then .enterTx f else .enterRx f) { s with offset := o } = .next u ∧ u.rsp = some ⟨st, 0, 0⟩ ∧
        exec i s = .next { u with rsp := some ⟨st, o, 0⟩ } := by
  refine ⟨(setOffset v s).offset, setOffset_toInt_eq v s, fun h => ?untuned, fun f h => ?tuned⟩
  case untuned => rw [hi, offsetAndRetune_of_none v h]
  case tuned =>
    obtain ⟨u, st, henter, hrsp, hstate⟩ := offsetAndRetune_of_some v h
    exact ⟨u, st, henter, hrsp, by rw [hi, hstate]⟩

end Sys2Proof.Machine

namespace Sys2Proof.Proofs

open Sys2Proof Sys2Proof.Machine

/-- Settles O29. -/
theorem enterTxResult : Obligations.EnterTxResult :=
  fun _ f => ⟨fun a1 => decode_enterTx_word a1 f, fun _ _ h => exec_enterMode_of_bandRow true h,
    exec_enterMode_of_no_bandRow true⟩

/-- Settles O30. The class is that of the adjusted frequency; only the word is that of the LO below it. -/
theorem enterRxResult : Obligations.EnterRxResult :=
  fun _ f => ⟨fun a1 => decode_enterRx_word a1 f, fun _ _ h => exec_enterMode_of_bandRow false h,
    exec_enterMode_of_no_bandRow false⟩

/-- Settles O32. -/
theorem setOffsetHzRetunes : Obligations.SetOffsetHzRetunes :=
  fun s v => ⟨fun a1 => decode_setOffsetHz_word a1 v, offsetAndRetune_result (exec_setOffsetHz v s)⟩

/-- Settles O33. -/
theorem setOffsetPpmRetunes : Obligations.SetOffsetPpmRetunes :=
  fun _ v => ⟨fun a1 => decode_setOffsetPpm_word a1 v, exec_setOffsetPpm_of_none v,
    fun _ hg => offsetAndRetune_result (exec_setOffsetPpm_of_some v hg)⟩

/-- Settles O31. -/
theorem failedEnterChangesNothing : Obligations.FailedEnterChangesNothing :=
  fun _ tx _ h => enter_of_no_bandRow tx h

end Sys2Proof.Proofs
end

section
/-! PROOFS. The signal path (spec/42_signal.md): READ_SQ, DETECT, SMETER, AGC, SET_SQL, SET_GAIN and DYN_WRITE. -/

namespace Sys2Proof.Machine

open Sys2Proof

/-! ## Decoding and running the seven operations -/

theorem decode_readSq_word (a1 a0 : BitVec 32) : decode (0x08#5 ++ a1 ++ a0) = .readSq := by
  change decode (mkCommand 0x08 a1 a0) = _
  simp [decode]

theorem decode_detect_word (a1 a0 : BitVec 32) : decode (0x09#5 ++ a1 ++ a0) = .detect := by
  change decode (mkCommand 0x09 a1 a0) = _
  simp [decode]

theorem decode_agc_word (a1 a0 : BitVec 32) : decode (0x0A#5 ++ a1 ++ a0) = .agc := by
  change decode (mkCommand 0x0A a1 a0) = _
  simp [decode]

theorem decode_smeter_word (a1 a0 : BitVec 32) : decode (0x0B#5 ++ a1 ++ a0) = .smeter := by
  change decode (mkCommand 0x0B a1 a0) = _
  simp [decode]

theorem decode_setSql_word (a1 a0 : BitVec 32) : decode (0x0C#5 ++ a1 ++ a0) = .setSql (a0.extractLsb' 0 8) := by
  change decode (mkCommand 0x0C a1 a0) = _
  simp [decode]

theorem decode_setGain_word (a1 a0 : BitVec 32) : decode (0x0D#5 ++ a1 ++ a0) = .setGain (a0.extractLsb' 0 8) := by
  change decode (mkCommand 0x0D a1 a0) = _
  simp [decode]

theorem decode_dynWrite_word (a1 a0 : BitVec 32) : decode (0x0E#5 ++ a1 ++ a0) =
    .dynWrite (a0.extractLsb' 0 8) (a1.extractLsb' 16 16) (a1.extractLsb' 0 16) := by
  change decode (mkCommand 0x0E a1 a0) = _
  simp [decode]

theorem exec_readSq (s : State) : exec .readSq s =
    .next { memRead s.cfg.regSq s with
      rssi := field (memReadValue s) s.cfg.rssiLsb 8
      snr := field (memReadValue s) s.cfg.snrLsb 6
      rsp := some ⟨.ok, (field (memReadValue s) s.cfg.rssiLsb 8).setWidth 64,
        (field (memReadValue s) s.cfg.snrLsb 6).setWidth 32⟩ } :=
  exec_eq_leaves .readSq s

theorem exec_detect (s : State) : exec .detect s = .next { s with
    filt := filtNext s, det := detNext s, rsp := some ⟨.ok, (BitVec.ofBool (detNext s)).setWidth 64, 0⟩ } :=
  exec_eq_leaves .detect s

theorem exec_smeter (s : State) : exec .smeter s = .next { s with
    smeter := BitVec.ofNat 4 (smeterOf s.cfg s.rssi.toNat)
    rsp := some ⟨.ok, (BitVec.ofNat 4 (smeterOf s.cfg s.rssi.toNat)).setWidth 64, 0⟩ } :=
  exec_eq_leaves .smeter s

/-- R171: the loop asks for the level the gain has already. -/
theorem exec_agc_of_eq {s : State} (h : agcGain s = s.gain) :
    exec .agc s = .next { s with rsp := some ⟨.ok, (agcGain s).setWidth 64, 0⟩ } := by
  rw [exec_eq_leaves, leaves, agcBody, if_pos h, if_pos h]
  rfl

/-- R171: the loop asks for another level. -/
theorem exec_agc_of_ne {s : State} (h : agcGain s ≠ s.gain) :
    exec .agc s = .next { writeField s.cfg.gainK s.cfg.gainLsb 3 (agcGain s).toNat s with
      rsp := some ⟨.ok, (agcGain s).setWidth 64, 1⟩ } := by
  rw [exec_eq_leaves, leaves, agcBody, if_neg h, if_neg h]
  rfl

theorem exec_setSql (l : BitVec 8) (s : State) : exec (.setSql l) s = .next
    { writeField s.cfg.sqlK s.cfg.sqlLsb s.cfg.sqlWidth (sqlEncode s.cfg (sqlLevel l).toNat).toNat s with
      sqlIndex := sqlLevel l, rsp := some ⟨.ok, (sqlLevel l).setWidth 64, 0⟩ } :=
  exec_eq_leaves (.setSql l) s

theorem exec_setGain (l : BitVec 8) (s : State) : exec (.setGain l) s = .next
    { writeField s.cfg.gainK s.cfg.gainLsb 3 (gainLevel l).toNat s with
      rsp := some ⟨.ok, (gainLevel l).setWidth 64, 0⟩ } :=
  exec_eq_leaves (.setGain l) s

theorem exec_dynWrite_of_le {k : BitVec 8} {s : State} (mask value : RegValue) (h : s.cfg.nDyn ≤ k.toNat) :
    exec (.dynWrite k mask value) s = .next { s with rsp := some ⟨.badIndex, 0, 0⟩ } := by
  rw [exec_eq_leaves, leaves, afterDynWrite, if_pos h]
  rfl

theorem exec_dynWrite_of_lt {k : BitVec 8} {s : State} (mask value : RegValue) (h : k.toNat < s.cfg.nDyn) :
    exec (.dynWrite k mask value) s =
      .next { writeDyn k.toNat (maskedValue (s.dynAt k.toNat) mask value) s with
        rsp := some ⟨.ok, (maskedValue (s.dynAt k.toNat) mask value).setWidth 64, 0⟩ } := by
  rw [exec_eq_leaves, leaves, afterDynWrite, if_neg (by omega)]
  rfl

/-! ## Operands and results -/

@[simp] theorem sqlLevel_toNat (l : BitVec 8) : (sqlLevel l).toNat = min l.toNat 9 := by
  simp only [sqlLevel, sqlMax, BitVec.toNat_ofNat]; omega

@[simp] theorem gainLevel_toNat (l : BitVec 8) : (gainLevel l).toNat = min l.toNat 7 := by
  simp only [gainLevel, gainMax, BitVec.toNat_ofNat]; omega

theorem sqlLevel_setWidth (l : BitVec 8) : (sqlLevel l).setWidth 64 = BitVec.ofNat 64 (min l.toNat 9) :=
  BitVec.setWidth_ofNat_of_le_of_lt (by decide) (by simp only [sqlMax]; omega)

theorem gainLevel_setWidth (l : BitVec 8) : (gainLevel l).setWidth 64 = BitVec.ofNat 64 (min l.toNat 7) :=
  BitVec.setWidth_ofNat_of_le_of_lt (by decide) (by simp only [gainMax]; omega)

theorem ofBool_setWidth (b : Bool) : (BitVec.ofBool b).setWidth 64 = if b then 1 else 0 := by
  cases b <;> rfl

/-- A clamped index is one of the ten of SQL_ENC (R85). -/
theorem sqlEncode_of_lt (c : Cfg) {i : Nat} (h : i < 10) : sqlEncode c i = c.sqlEnc[i] := by
  simp [sqlEncode, h]

/-! ## The accesses of the signal path -/

/-- A listed answer is the one that the next access takes (R11). -/
theorem answer_of_head? {s : State} {a : Answer} (h : s.answers.head? = some a) : s.answer = a := by
  obtain ⟨as, has⟩ := List.head?_eq_some_iff.1 h
  rw [State.answer, has]

/-- R10: the event and the answer of one read. -/
theorem memRead_eq (a : RegAddr) (s : State) :
    memRead a s = afterAccesses [.read a s.answer.value s.answer.ok] [s.answer.ok] s :=
  access_eq_afterAccesses s _

/-- R62: the event, the answer and the state of one write through the cache. -/
theorem writeDyn_result (k : Nat) (v : RegValue) (s : State) : ∃ oks, AnswersFor s 1 oks ∧
    writeDyn k v s = { afterAccesses (eventsOf [⟨dynAddr s.cfg k, v⟩] oks) oks s with dyn := s.dyn.set k v } :=
  ⟨[s.answer.ok], answersFor_one s, writeDyn_eq k v s⟩

/-- R161: the value that a field write puts in the cache and on the bus, bit by bit, and the whole state after it. -/
theorem writeField_result (k lsb w x : Nat) (s : State) : ∃ v oks, AnswersFor s 1 oks ∧
    (∀ j, j < 16 → v.getLsbD j = if lsb ≤ j ∧ j < lsb + w then x.testBit (j - lsb) else (s.dynAt k).getLsbD j) ∧
    writeField k lsb w x s =
      { afterAccesses (eventsOf [⟨dynAddr s.cfg k, v⟩] oks) oks s with dyn := s.dyn.set k v } := by
  obtain ⟨oks, hanswers, hstate⟩ := writeDyn_result k (setField (s.dynAt k) lsb w x) s
  refine ⟨_, oks, hanswers, fun j hj => ?_, hstate⟩
  rw [setField_getLsbD, decide_eq_true hj, Bool.true_and]

/-! ## The detector -/

/-- R163. -/
theorem filtNext_eq (s : State) : filtNext s =
    if s.det then 3 / 5 * (s.rssi.toNat : Rat) + 2 / 5 * s.filt
    else 1 / 5 * (s.rssi.toNat : Rat) + 4 / 5 * s.filt := by
  unfold filtNext alpha alphaFall alphaRise
  split_ifs <;> norm_num

/-- R164, R165. -/
theorem detNext_eq (s : State) : detNext s =
    if s.det then !(decide (filtNext s < (s.thr.toNat : Rat) - 3) || decide (s.snr.toNat < 2))
    else decide ((s.thr.toNat : Rat) + 3 < filtNext s) && decide (2 ≤ s.snr.toNat) && !s.isTx := rfl

/-! ## The S-meter -/

/-- In a list where a true entry makes every entry before it true, the true entries are the first ones. -/
theorem getElem_iff_lt_countP {α : Type} {p : α → Bool} {l : List α} (h : l.Pairwise fun a b => p b → p a)
    (j : Nat) (hj : j < l.length) : p l[j] ↔ j < l.countP p := by
  induction l generalizing j with
  | nil => simp at hj
  | cons a l ih =>
    obtain ⟨hhead, htail⟩ := List.pairwise_cons.1 h
    by_cases ha : p a
    · cases j with
      | zero => simp [ha]
      | succ j => simpa [ha] using ih htail j (by simpa using hj)
    · have hnone : ∀ b ∈ a :: l, ¬p b :=
        List.forall_mem_cons.2 ⟨ha, fun b hb hpb => ha (hhead b hb hpb)⟩
      rw [List.countP_eq_zero.2 hnone]
      simp only [Nat.not_lt_zero, iff_false]
      exact hnone _ (List.getElem_mem hj)

theorem smeterOf_le (c : Cfg) (x : Nat) : smeterOf c x ≤ 10 := by
  simpa [smeterOf] using c.sqlTable.toList.countP_le_length (p := fun t => decide (t.toNat ≤ x))

/-- R168: the count over the entries as the count over their indices. -/
theorem smeterOf_eq_countP_finRange (c : Cfg) (x : Nat) :
    smeterOf c x = (List.finRange 10).countP fun j => decide ((c.sqlTable.get j).toNat ≤ x) := by
  have htable : c.sqlTable.toList = (List.finRange 10).map c.sqlTable.get :=
    List.ext_getElem (by simp) fun i _ _ => by simp [Vector.get]
  rw [smeterOf, htable, List.countP_map]
  rfl

/-- R168: in a sorted table the entries reached are the first ones. -/
theorem sqlTable_le_iff {c : Cfg} (hwf : c.wf = true) (x : Nat) (j : Fin 10) :
    (c.sqlTable.get j).toNat ≤ x ↔ j.val < smeterOf c x := by
  have hdown : c.sqlTable.toList.Pairwise fun a b => decide (b.toNat ≤ x) → decide (a.toNat ≤ x) :=
    (c.wf_tableSorted hwf).imp fun hab => by simpa using fun hb => hab.trans hb
  simpa [smeterOf, Vector.get] using getElem_iff_lt_countP hdown j.val (by simp)

/-! ## The gain loop -/

theorem agcLevel_eq (s : State) :
    agcLevel s = if s.cfg.agcRssiSrc = .raw then (s.rssi.toNat : Rat) else s.filt := by
  unfold agcLevel
  cases s.cfg.agcRssiSrc <;> rfl

theorem agcLowStep_toInt_eq (st : AgcLowStep) : st.toInt = if st = .plusOne then 1 else -1 := by
  cases st <;> rfl

/-- A level in 0..7 is held by the three bits of the gain field. -/
theorem toNat_ofInt_gain {v : Int} (h0 : 0 ≤ v) (h7 : v ≤ 7) : ((BitVec.ofInt 3 v).toNat : Int) = v := by
  rw [BitVec.toNat_ofInt]
  omega

/-- R170, as integers: no clamped level is lost in the three bits of the gain. -/
theorem agcNext_toNat (st : AgcLowStep) (rx : Bool) (x : Rat) (g : BitVec 3) (t : Rat) :
    ((agcNext st rx x g t).toNat : Int) =
      if rx = false then 7
      else if x ≤ t then max 0 (min 7 ((g.toNat : Int) + st.toInt))
      else if overload < x then max 0 ((g.toNat : Int) - 1) else g.toNat := by
  have hg := g.isLt
  simp only [agcNext, Bool.not_eq_true']
  split_ifs with hrx hlow hover
  · rfl
  · have hclamp := clamp_bounds ((g.toNat : Int) + st.toInt) 0 7 (by decide)
    rw [toNat_ofInt_gain hclamp.1 hclamp.2, clamp]
    omega
  · rw [toNat_ofInt_gain (by omega) (by omega)]
    omega
  · rfl

end Sys2Proof.Machine

namespace Sys2Proof.Proofs

open Sys2Proof Sys2Proof.Machine

/-- Settles O37. The value and the success are those of the transport's next answer. -/
theorem readSqResult : Obligations.ReadSqResult := by
  intro s
  refine ⟨decode_readSq_word, s.answer.value, s.answer.ok, ?_, ?_⟩
  · intro a ha
    rw [answer_of_head? ha]
    exact ⟨rfl, fun _ => rfl⟩
  · rw [exec_readSq, memRead_eq, field_memReadValue, field_memReadValue,
      BitVec.setWidth_ofNat_of_le_of_lt (by decide) (Nat.mod_lt _ (Nat.two_pow_pos 8)),
      BitVec.setWidth_ofNat_of_le_of_lt (by decide) (Nat.mod_lt _ (Nat.two_pow_pos 6))]
    rfl

/-- Settles O38. -/
theorem detectResult : Obligations.DetectResult := by
  intro s
  refine ⟨decode_detect_word, ?_⟩
  rw [exec_detect, ofBool_setWidth, detNext_eq, filtNext_eq]

/-- Settles O40. -/
theorem smeterResult : Obligations.SmeterResult := by
  intro s
  have hle := smeterOf_le s.cfg s.rssi.toNat
  refine ⟨decode_smeter_word, smeterOf s.cfg s.rssi.toNat, hle, smeterOf_eq_countP_finRange _ _,
    fun hwf => sqlTable_le_iff hwf _, ?_⟩
  rw [exec_smeter, BitVec.setWidth_ofNat_of_le_of_lt (by decide) (by omega)]

/-- Settles O41: the level is `agcNext`'s, and a change of it is one field write. -/
theorem agcResult : Obligations.AgcResult := by
  intro s
  refine ⟨decode_agc_word, agcGain s, ?level, exec_agc_of_eq, fun hchange => ?write⟩
  case level =>
    rw [agcGain, agcNext_toNat, agcLowStep_toInt_eq, agcLevel_eq]
    rfl
  case write =>
    obtain ⟨v, oks, hanswers, hbits, hstate⟩ := writeField_result s.cfg.gainK s.cfg.gainLsb 3 (agcGain s).toNat s
    exact ⟨v, oks, hanswers, hbits, by rw [exec_agc_of_ne hchange, hstate]⟩

/-- Settles O43. -/
theorem setSqlResult : Obligations.SetSqlResult := by
  intro s level
  refine ⟨?_, ?_⟩
  · rintro a1 a0 rfl
    exact decode_setSql_word a1 a0
  · obtain ⟨v, oks, hanswers, hbits, hstate⟩ := writeField_result s.cfg.sqlK s.cfg.sqlLsb s.cfg.sqlWidth
      (sqlEncode s.cfg (sqlLevel level).toNat).toNat s
    rw [sqlLevel_toNat, sqlEncode_of_lt s.cfg (by omega)] at hbits
    exact ⟨v, oks, hanswers, hbits, by rw [exec_setSql, hstate, sqlLevel_setWidth]; rfl⟩

/-- Settles O44. -/
theorem setGainResult : Obligations.SetGainResult := by
  intro s level
  refine ⟨?_, ?_⟩
  · rintro a1 a0 rfl
    exact decode_setGain_word a1 a0
  · obtain ⟨v, oks, hanswers, hbits, hstate⟩ :=
      writeField_result s.cfg.gainK s.cfg.gainLsb 3 (gainLevel level).toNat s
    rw [gainLevel_toNat] at hbits
    exact ⟨v, oks, hanswers, hbits, by rw [exec_setGain, hstate, gainLevel_setWidth]⟩

/-- Settles O45. -/
theorem dynWriteResult : Obligations.DynWriteResult := by
  intro s k mask value
  refine ⟨?_, exec_dynWrite_of_le mask value, fun hk => ?_⟩
  · rintro a1 a0 rfl rfl rfl
    exact decode_dynWrite_word a1 a0
  · obtain ⟨oks, hanswers, hstate⟩ := writeDyn_result k.toNat (maskedValue (s.dynAt k.toNat) mask value) s
    refine ⟨_, oks, hanswers, fun j _ => maskedValue_getLsbD _ _ _ j, ?_⟩
    rw [exec_dynWrite_of_lt mask value hk, hstate]

end Sys2Proof.Proofs
end

section
/-! PROOFS. Control (spec/43_control.md): IS_ERROR, CHIP_RESET, TICK and the reserved codes. -/

namespace Sys2Proof.Machine

open Sys2Proof

/-! ## Decoding and running IS_ERROR, CHIP_RESET and TICK -/

theorem decode_isError_word (a1 a0 : BitVec 32) : decode (0x0F#5 ++ a1 ++ a0) = .isError := by
  change decode (mkCommand 0x0F a1 a0) = _
  simp [decode]

theorem decode_chipReset_word (a1 a0 : BitVec 32) : decode (0x10#5 ++ a1 ++ a0) = .chipReset := by
  change decode (mkCommand 0x10 a1 a0) = _
  simp [decode]

theorem decode_tick_word (a1 a0 : BitVec 32) : decode (0x11#5 ++ a1 ++ a0) = .tick := by
  change decode (mkCommand 0x11 a1 a0) = _
  simp [decode]

/-- R38. -/
theorem isError_iff (s : State) : s.isError = true ↔ s.cfg.errThreshold ≤ s.errCount.toNat := decide_eq_true_iff

theorem exec_isError (s : State) : exec .isError s = .next { s with
    rsp := some ⟨.ok, (BitVec.ofBool s.isError).setWidth 64, s.errCount.setWidth 32⟩ } :=
  exec_eq_leaves .isError s

theorem exec_chipReset (s : State) : exec .chipReset s =
    .next { chipResetBody s with rsp := some ⟨chipResetStatus s, 0, 0⟩ } :=
  exec_eq_leaves .chipReset s

theorem exec_tick (s : State) : exec .tick s = .next { tickBody s with
    rsp := some ⟨tickStatus s, (tickReport (tickBody s)).setWidth 64, (tickBody s).errCount.setWidth 32⟩ } :=
  exec_eq_leaves .tick s

/-- R202: with no RX frequency known there is nothing to re-enter. -/
theorem chipReset_of_none {s : State} (h : s.rxFreq = none) :
    chipResetBody s = clearErrors s ∧ chipResetStatus s = .ok := by
  rw [chipResetBody, chipResetStatus, h]
  exact ⟨rfl, rfl⟩

/-- R202: with an RX frequency known it is entered, once the count is cleared. -/
theorem chipReset_of_some {s : State} {f : Hz} (h : s.rxFreq = some f) :
    chipResetBody s = enter false f (clearErrors s) ∧ chipResetStatus s = enterStatus false f (clearErrors s) := by
  rw [chipResetBody, chipResetStatus, h]
  exact ⟨rfl, rfl⟩

theorem exec_chipReset_of_none {s : State} (h : s.rxFreq = none) :
    exec .chipReset s = .next { s with errCount := 0, rsp := some ⟨.ok, 0, 0⟩ } := by
  obtain ⟨hstate, hstatus⟩ := chipReset_of_none h
  rw [exec_chipReset, hstate, hstatus]
  rfl

theorem exec_chipReset_of_some {s : State} {f : Hz} (h : s.rxFreq = some f) :
    exec .chipReset s = exec (.enterRx f) { s with errCount := 0 } := by
  obtain ⟨hstate, hstatus⟩ := chipReset_of_some h
  rw [exec_chipReset, hstate, hstatus]
  exact (exec_enterMode false f (clearErrors s)).symm

/-! ## The parts of TICK -/

/-- An operation does what a body does and answers: whatever the response port shows, the operation leaves the body's
state with a response of its own. TICK runs the bodies without their responses (R203). -/
def AnswersAfter (i : Instr) (body : State → State) : Prop :=
  ∀ s p, ∃ r, exec i { s with rsp := p } = .next { body s with rsp := some r }

theorem readSq_answersAfter : AnswersAfter .readSq readSqBody := fun _ _ => ⟨_, exec_readSq _⟩

theorem detect_answersAfter : AnswersAfter .detect detectBody := fun _ _ => ⟨_, exec_detect _⟩

theorem smeter_answersAfter : AnswersAfter .smeter smeterBody := fun _ _ => ⟨_, exec_smeter _⟩

/-- R171: the loop's decision does not look at the response port either. -/
theorem agc_answersAfter : AnswersAfter .agc agcBody := by
  intro s p
  by_cases h : agcGain s = s.gain
  · rw [agcBody, if_pos h]
    exact ⟨_, exec_agc_of_eq (s := { s with rsp := p }) h⟩
  · rw [agcBody, if_neg h]
    exact ⟨_, exec_agc_of_ne (s := { s with rsp := p }) h⟩

/-- R203: with the flag set the first part of TICK is CHIP_RESET but for its response, and TICK takes over its status. -/
theorem tickReset_of_isError {s : State} (h : s.isError = true) :
    exec .chipReset s = .next { tickReset s with rsp := some ⟨tickStatus s, 0, 0⟩ } := by
  rw [exec_chipReset, tickReset, tickStatus, if_pos h, if_pos h]

/-- R203: with the flag clear TICK has no first part and answers OK. -/
theorem tickReset_of_not_isError {s : State} (h : ¬s.isError = true) : tickReset s = s ∧ tickStatus s = .ok :=
  ⟨if_neg h, if_neg h⟩

/-- R203: the first part of TICK leaves a state that shows the status of TICK. -/
theorem tickReset_cases (s : State) : ∃ p,
    (if s.cfg.errThreshold ≤ s.errCount.toNat then exec .chipReset s = .next { tickReset s with rsp := p }
      else { tickReset s with rsp := p } = s) ∧
    tickStatus s = if s.cfg.errThreshold ≤ s.errCount.toNat then p.elim .ok Response.status else .ok := by
  simp only [← isError_iff]
  by_cases h : s.isError = true
  · refine ⟨some ⟨tickStatus s, 0, 0⟩, ?_, ?_⟩
    · rw [if_pos h]
      exact tickReset_of_isError h
    · rw [if_pos h]
      rfl
  · obtain ⟨hstate, hstatus⟩ := tickReset_of_not_isError h
    refine ⟨s.rsp, ?_, ?_⟩
    · rw [if_neg h, hstate]
    · rw [if_neg h, hstatus]

/-! ## The report of TICK -/

/-- A concatenation as a number: its parts share no bit. -/
theorem toNat_append_eq_add {m n : Nat} (x : BitVec m) (y : BitVec n) :
    (x ++ y).toNat = 2 ^ n * x.toNat + y.toNat := by
  rw [BitVec.toNat_append, ← Nat.shiftLeft_add_eq_or_of_lt y.isLt, Nat.shiftLeft_eq, Nat.mul_comm]

/-- R203: the packing `{smeter[3:0], gain[2:0], det}` as a number. -/
theorem tickReport_toNat (s : State) :
    (tickReport s).toNat = 16 * s.smeter.toNat + 2 * s.gain.toNat + if s.det then 1 else 0 := by
  have hdet : (BitVec.ofBool s.det).toNat = if s.det then 1 else 0 := by cases s.det <;> rfl
  rw [tickReport, toNat_append_eq_add, toNat_append_eq_add, hdet]
  omega

theorem tickReport_setWidth (s : State) : (tickReport s).setWidth 64 =
    BitVec.ofNat 64 (16 * s.smeter.toNat + 2 * s.gain.toNat + if s.det then 1 else 0) := by
  rw [← tickReport_toNat, BitVec.ofNat_toNat]

end Sys2Proof.Machine

namespace Sys2Proof.Proofs

open Sys2Proof Sys2Proof.Machine

/-- Settles O47. -/
theorem isErrorResult : Obligations.IsErrorResult := by
  intro s
  refine ⟨decode_isError_word, ?_⟩
  rw [exec_isError, ofBool_setWidth, BitVec.ofNat_toNat]
  simp only [isError_iff]

/-- Settles O48. -/
theorem chipResetResult : Obligations.ChipResetResult :=
  fun _ => ⟨decode_chipReset_word, exec_chipReset_of_none,
    fun f h => ⟨_, exec_eq_leaves (.enterRx f) _, (exec_chipReset_of_some h).trans (exec_eq_leaves (.enterRx f) _)⟩⟩

/-- Settles O49: the parts run one after the other leave TICK's own state but for the response port, which TICK drives
last. -/
theorem tickComposesItsParts : Obligations.TickComposesItsParts := by
  intro s
  obtain ⟨p, hreset, hstatus⟩ := tickReset_cases s
  obtain ⟨r1, hreadSq⟩ := readSq_answersAfter (tickReset s) p
  obtain ⟨r2, hdetect⟩ := detect_answersAfter (readSqBody (tickReset s)) (some r1)
  obtain ⟨r3, hagc⟩ := agc_answersAfter (detectBody (readSqBody (tickReset s))) (some r2)
  obtain ⟨r4, hsmeter⟩ := smeter_answersAfter (agcBody (detectBody (readSqBody (tickReset s)))) (some r3)
  refine ⟨decode_tick_word, _, _, _, _, _, hreset, hreadSq, hdetect, hagc, hsmeter, ?_⟩
  rw [exec_tick, hstatus, tickReport_setWidth, ← BitVec.ofNat_toNat]
  rfl

/-- Settles O50: the other seventeen operations have the codes 0x01 to 0x11. -/
theorem reservedCodesAreIllegal : Obligations.ReservedCodesAreIllegal := by
  intro s i hcode
  cases i with
  | classify | synth | quantize | enterTx | enterRx | setOffsetHz | setOffsetPpm | readSq | detect | agc | smeter
  | setSql | setGain | dynWrite | isError | chipReset | tick =>
    simp [opcode] at hcode
  | reserved00 | reserved12 | reserved13 | reserved14 | reserved15 | reserved16 | reserved17 | reserved18 | reserved19
  | reserved1A | reserved1B | reserved1C | reserved1D | reserved1E | reserved1F =>
    refine ⟨fun a1 a0 => ?_, exec_eq_leaves _ s⟩
    change decode (mkCommand _ a1 a0) = _
    simp [decode, opcode]

end Sys2Proof.Proofs
end

section
/-! PROOFS. Exceptions (spec/60_exceptions.md): every operation ends with a response on the port, and none touches what the
host gives it, the commands still to be presented and the configuration. -/

namespace Sys2Proof.Machine

open Sys2Proof

/-! ## What the host gives -/

/-- The commands still to be presented and the configuration are the same in both states (R40, R76; log entry 4). -/
def InputsKept (s t : State) : Prop := t.cmds = s.cmds ∧ t.cfg = s.cfg

theorem InputsKept.refl (s : State) : InputsKept s s := ⟨rfl, rfl⟩

theorem InputsKept.trans {s t u : State} (hst : InputsKept s t) (htu : InputsKept t u) : InputsKept s u := by
  obtain ⟨hcmds, hcfg⟩ := hst
  obtain ⟨hcmds', hcfg'⟩ := htu
  exact ⟨hcmds'.trans hcmds, hcfg'.trans hcfg⟩

theorem writeDyn_inputsKept (k : Nat) (v : RegValue) (s : State) : InputsKept s (writeDyn k v s) :=
  ⟨writeDyn_cmds s k v, writeDyn_cfg s k v⟩

theorem writeField_inputsKept (k lsb w x : Nat) (s : State) : InputsKept s (writeField k lsb w x s) :=
  writeDyn_inputsKept k _ s

theorem readSqBody_inputsKept (s : State) : InputsKept s (readSqBody s) := ⟨readSqBody_cmds s, readSqBody_cfg s⟩

theorem detectBody_inputsKept (s : State) : InputsKept s (detectBody s) := ⟨detectBody_cmds s, detectBody_cfg s⟩

theorem smeterBody_inputsKept (s : State) : InputsKept s (smeterBody s) := ⟨smeterBody_cmds s, smeterBody_cfg s⟩

theorem clearErrors_inputsKept (s : State) : InputsKept s (clearErrors s) := ⟨clearErrors_cmds s, clearErrors_cfg s⟩

theorem setOffset_inputsKept (v : Int) (s : State) : InputsKept s (setOffset v s) :=
  ⟨setOffset_cmds s v, setOffset_cfg s v⟩

theorem agcBody_inputsKept (s : State) : InputsKept s (agcBody s) := by
  by_cases h : agcGain s = s.gain
  · rw [agcBody, if_pos h]
    exact .refl s
  · rw [agcBody, if_neg h]
    exact writeField_inputsKept _ _ _ _ s

/-- R133, R134: neither the sequence of a mode switch nor a failed one touches them. -/
theorem enter_inputsKept (tx : Bool) (f : Hz) (s : State) : InputsKept s (enter tx f s) := by
  rcases enter_cases tx f s with ⟨-, -, hfailed⟩ | ⟨d, oks, -, -, -, hentered⟩
  · rw [hfailed]
    exact .refl s
  · rw [hentered]
    exact ⟨rfl, rfl⟩

theorem retune_inputsKept (s : State) : InputsKept s (retune s) := by
  rcases retune_cases s with ⟨-, -, huntuned⟩ | ⟨f, -, -, htuned⟩
  · rw [huntuned]
    exact .refl s
  · rw [htuned]
    exact enter_inputsKept s.isTx f s

theorem chipResetBody_inputsKept (s : State) : InputsKept s (chipResetBody s) := by
  have hclear := clearErrors_inputsKept s
  cases h : s.rxFreq with
  | none =>
    obtain ⟨hstate, -⟩ := chipReset_of_none h
    rw [hstate]
    exact hclear
  | some f =>
    obtain ⟨hstate, -⟩ := chipReset_of_some h
    rw [hstate]
    exact hclear.trans (enter_inputsKept false f _)

theorem tickReset_inputsKept (s : State) : InputsKept s (tickReset s) := by
  by_cases h : s.isError = true
  · rw [tickReset, if_pos h]
    exact chipResetBody_inputsKept s
  · rw [tickReset, if_neg h]
    exact .refl s

/-- R203: no part of TICK touches them. -/
theorem tickBody_inputsKept (s : State) : InputsKept s (tickBody s) :=
  (tickReset_inputsKept s).trans <| (readSqBody_inputsKept _).trans <| (detectBody_inputsKept _).trans <|
    (agcBody_inputsKept _).trans (smeterBody_inputsKept _)

/-! ## Ending with a response -/

/-- The port shows a response, and what the host gives is kept. -/
def Responded (s t : State) : Prop := (∃ r, t.rsp = some r) ∧ InputsKept s t

theorem InputsKept.respond {s t : State} (h : InputsKept s t) (r : Response) : Responded s (respond r t) :=
  ⟨⟨r, respond_rsp t r⟩, h⟩

/-- R220: whatever was done before it, `finish` leaves a response. -/
theorem InputsKept.finish {s t : State} (h : InputsKept s t) (st : Status) (r0 : BitVec 64) (r1 : BitVec 32) :
    Responded s (finish st r0 r1 t) :=
  h.respond ⟨st, r0, r1⟩

theorem reservedCode_responded (s : State) : Responded s (reservedCode s) := (InputsKept.refl s).finish _ _ _

theorem offsetAndRetune_responded (v : Int) (s : State) : Responded s (offsetAndRetune v s) :=
  ((setOffset_inputsKept v s).trans (retune_inputsKept _)).finish _ _ _

/-- R139: both with a user frequency and without one. -/
theorem afterSetOffsetPpm_responded (v : BitVec 32) (s : State) : Responded s (afterSetOffsetPpm v s) := by
  cases h : s.lastUserFreq with
  | none =>
    rw [afterSetOffsetPpm, h]
    exact (InputsKept.refl s).finish _ _ _
  | some f =>
    rw [afterSetOffsetPpm, h]
    exact offsetAndRetune_responded _ s

/-- R175: both with a register `k` and without one. -/
theorem afterDynWrite_responded (k : Nat) (mask value : RegValue) (s : State) :
    Responded s (afterDynWrite k mask value s) := by
  by_cases h : s.cfg.nDyn ≤ k
  · rw [afterDynWrite, if_pos h]
    exact (InputsKept.refl s).finish _ _ _
  · rw [afterDynWrite, if_neg h]
    exact (writeDyn_inputsKept k _ s).finish _ _ _

/-- R220, operation by operation: what each does before its `finish` keeps what the host gives. -/
theorem leaves_responded (i : Instr) (s : State) : Responded s (leaves i s) := by
  have hsame := InputsKept.refl s
  cases i with
  | classify | synth => exact hsame.respond _
  | quantize | isError => exact hsame.finish _ _ _
  | enterTx f => exact (enter_inputsKept true f s).finish _ _ _
  | enterRx f => exact (enter_inputsKept false f s).finish _ _ _
  | setOffsetHz => exact offsetAndRetune_responded _ s
  | setOffsetPpm v => exact afterSetOffsetPpm_responded v s
  | readSq => exact (readSqBody_inputsKept s).finish _ _ _
  | detect => exact (detectBody_inputsKept s).finish _ _ _
  | agc => exact (agcBody_inputsKept s).finish _ _ _
  | smeter => exact (smeterBody_inputsKept s).finish _ _ _
  | setSql l =>
    have hindex : InputsKept s { s with sqlIndex := sqlLevel l } := ⟨rfl, rfl⟩
    exact (hindex.trans (writeField_inputsKept _ _ _ _ _)).finish _ _ _
  | setGain => exact (writeField_inputsKept _ _ _ _ s).finish _ _ _
  | dynWrite k mask value => exact afterDynWrite_responded k.toNat mask value s
  | chipReset => exact (chipResetBody_inputsKept s).finish _ _ _
  | tick => exact (tickBody_inputsKept s).finish _ _ _
  | reserved00 | reserved12 | reserved13 | reserved14 | reserved15 | reserved16 | reserved17 | reserved18 | reserved19
  | reserved1A | reserved1B | reserved1C | reserved1D | reserved1E | reserved1F => exact reservedCode_responded s

end Sys2Proof.Machine

namespace Sys2Proof.Proofs

open Sys2Proof Sys2Proof.Machine

/-- Settles O9: the next state is the one the operation leaves. -/
theorem everyOperationResponds : Obligations.EveryOperationResponds := by
  intro i s
  obtain ⟨⟨r, hrsp⟩, hcmds, hcfg⟩ := leaves_responded i s
  exact ⟨leaves i s, r, exec_eq_leaves i s, hrsp, hcmds, hcfg⟩

end Sys2Proof.Proofs
end

section
/-! PROOFS. The values after power-on reset (spec/70_reset_and_hazards.md R240). -/

namespace Sys2Proof.Proofs

open Sys2Proof Sys2Proof.Machine

/-- Settles O13: `State.powerOn` gives each element its reset value. Only the offset is stored in another form than the
one stated: as the word of its signed value (R27). -/
theorem powerOnValues : Obligations.PowerOnValues := by
  intro c s
  have hoffset : s.offset.toInt = 0 := BitVec.toInt_zero
  exact ⟨rfl, rfl, rfl, rfl, rfl, hoffset, rfl, rfl, rfl, rfl, rfl, rfl, rfl, rfl, rfl⟩

end Sys2Proof.Proofs
end

section
/-! PROOFS. An operation as a program of parts. The operations share ten pieces of work; each operation runs a short
list of them, chosen by its operands and the state before it, and answers. What is true of a piece is proved once, and
holds of every operation that is put together from such pieces. -/

namespace Sys2Proof.Machine

open Sys2Proof

/-! ## Parts and programs -/

/-- A piece of work that operations are put together from. -/
inductive Part where
  /-- `Enter(tx, f)` (R133). -/
  | enter (tx : Bool) (f : Hz)
  /-- `Retune()` (R135). -/
  | retune
  /-- The body of CHIP_RESET (R202). -/
  | reset
  /-- The clamped offset of `v` nHz (R138, R139). -/
  | setOffset (v : Int)
  /-- The body of READ_SQ (R160). -/
  | readSq
  /-- The body of DETECT (R166). -/
  | detect
  /-- The body of AGC (R171). -/
  | agc
  /-- The body of SMETER (R169). -/
  | smeter
  /-- The squelch index of a level operand (R173). -/
  | setIndex (level : BitVec 8)
  /-- The write-through of one cache entry (R62). -/
  | writeDyn (k : Nat) (v : RegValue)

/-- What a part does to the state. -/
def Part.run : Part → State → State
  | .enter tx f, s => Machine.enter tx f s
  | .retune, s => Machine.retune s
  | .reset, s => chipResetBody s
  | .setOffset v, s => Machine.setOffset v s
  | .readSq, s => readSqBody s
  | .detect, s => detectBody s
  | .agc, s => agcBody s
  | .smeter, s => smeterBody s
  | .setIndex l, s => { s with sqlIndex := sqlLevel l }
  | .writeDyn k v, s => Machine.writeDyn k v s

/-- Parts one after the other. -/
def runParts : List Part → State → State
  | [], s => s
  | p :: ps, s => runParts ps (p.run s)

/-- The parts that an operation runs from a state. -/
def program (i : Instr) (s : State) : List Part :=
  match i with
  | .classify _ => []
  | .synth _ _ => []
  | .quantize _ _ => []
  | .enterTx f => [.enter true f]
  | .enterRx f => [.enter false f]
  | .setOffsetHz v => [.setOffset (signedOperand v * nhzPerHz), .retune]
  | .setOffsetPpm v => s.lastUserFreq.elim [] fun f => [.setOffset ((f.toNat : Int) * signedOperand v), .retune]
  | .readSq => [.readSq]
  | .detect => [.detect]
  | .agc => [.agc]
  | .smeter => [.smeter]
  | .setSql l =>
    [.setIndex l, .writeDyn s.cfg.sqlK (setField (s.dynAt s.cfg.sqlK) s.cfg.sqlLsb s.cfg.sqlWidth
      (sqlEncode s.cfg (sqlLevel l).toNat).toNat)]
  | .setGain l =>
    [.writeDyn s.cfg.gainK (setField (s.dynAt s.cfg.gainK) s.cfg.gainLsb 3 (gainLevel l).toNat)]
  | .dynWrite k m v =>
    if s.cfg.nDyn ≤ k.toNat then [] else [.writeDyn k.toNat (maskedValue (s.dynAt k.toNat) m v)]
  | .chipReset => [.reset]
  | .isError => []
  | .tick => (if s.isError then [.reset] else []) ++ [.readSq, .detect, .agc, .smeter]
  | .reserved00 => []
  | .reserved12 => []
  | .reserved13 => []
  | .reserved14 => []
  | .reserved15 => []
  | .reserved16 => []
  | .reserved17 => []
  | .reserved18 => []
  | .reserved19 => []
  | .reserved1A => []
  | .reserved1B => []
  | .reserved1C => []
  | .reserved1D => []
  | .reserved1E => []
  | .reserved1F => []

/-- Every operation is its program and a response. -/
theorem leaves_eq (i : Instr) (s : State) :
    leaves i s = { runParts (program i s) s with rsp := (leaves i s).rsp } := by
  cases i with
  | setOffsetPpm v =>
    simp only [leaves, program, afterSetOffsetPpm]
    cases s.lastUserFreq <;> rfl
  | dynWrite k m v =>
    simp only [leaves, program, afterDynWrite]
    split <;> rfl
  | tick =>
    simp only [leaves, program, tickBody, tickReset]
    split <;> rfl
  | _ => rfl

theorem part_cfg (p : Part) (s : State) : (p.run s).cfg = s.cfg := by
  cases p with
  | enter tx f => exact (enter_inputsKept tx f s).2
  | retune => exact (retune_inputsKept s).2
  | reset => exact (chipResetBody_inputsKept s).2
  | agc => exact (agcBody_inputsKept s).2
  | _ => rfl

/-- The induction over a program: a relation that is reflexive and transitive, and holds of each part from every state
with this configuration, holds of the whole. -/
theorem runParts_rel {R : State → State → Prop} (hrefl : ∀ s, R s s) (htrans : ∀ s t u, R s t → R t u → R s u)
    {ps : List Part} {s : State} (h : ∀ p ∈ ps, ∀ t, t.cfg = s.cfg → R t (p.run t)) : R s (runParts ps s) := by
  induction ps generalizing s with
  | nil => exact hrefl s
  | cons p ps ih =>
    obtain ⟨hhead, htail⟩ := List.forall_mem_cons.1 h
    exact htrans _ _ _ (hhead s rfl) (ih fun q hq t ht => htail q hq t (ht.trans (part_cfg p s)))

/-- A write of a dynamic register names one that exists; every other part is right for every configuration. -/
def Part.Fits (c : Cfg) : Part → Prop
  | .writeDyn k _ => k < c.nDyn
  | _ => True

/-- R84, R85, R175: under a well-formed configuration an operation writes dynamic registers that exist. -/
theorem program_fits {i : Instr} {s : State} (hwf : s.cfg.wf = true) : ∀ p ∈ program i s, p.Fits s.cfg := by
  obtain ⟨hgain, -⟩ := s.cfg.wf_gain hwf
  obtain ⟨hsql, -⟩ := s.cfg.wf_sql hwf
  cases i with
  | setSql l => simpa [program, Part.Fits] using hsql
  | setGain l => simpa [program, Part.Fits] using hgain
  | dynWrite k m v =>
    by_cases hk : s.cfg.nDyn ≤ k.toNat
    · simp [program, hk]
    · simp [program, hk, Part.Fits, Nat.lt_of_not_le hk]
  | setOffsetPpm v => cases h : s.lastUserFreq <;> simp [program, h, Part.Fits]
  | tick => cases h : s.isError <;> simp [program, h, Part.Fits]
  | _ => simp [program, Part.Fits]

/-! ## The cases of the shared parts -/

/-- R171: AGC leaves the state as it is, or writes its register once. -/
theorem agcBody_cases (s : State) :
    agcBody s = s ∨ agcBody s = writeField s.cfg.gainK s.cfg.gainLsb 3 (agcGain s).toNat s := by
  by_cases h : agcGain s = s.gain
  · exact .inl (if_pos h)
  · exact .inr (if_neg h)

/-- R202: CHIP_RESET clears the error count, and enters RX at the RX frequency if it has one. -/
theorem chipResetBody_cases (s : State) :
    (s.rxFreq = none ∧ chipResetBody s = clearErrors s) ∨
      ∃ f, s.rxFreq = some f ∧ chipResetBody s = enter false f (clearErrors s) := by
  cases h : s.rxFreq with
  | none => exact .inl ⟨rfl, (chipReset_of_none h).1⟩
  | some f => exact .inr ⟨f, rfl, (chipReset_of_some h).1⟩

/-- R76, R231, R86: a step that gives a state is idle, or runs the next command under a well-formed configuration. -/
theorem step_cases {s t : State} (h : step s = .next t) :
    (s.cmds = [] ∧ t = s) ∨
      ∃ w rest, s.cmds = w :: rest ∧ s.cfg.wf = true ∧ t = leaves (decode w) { s with cmds := rest } := by
  unfold step fetch at h
  cases hcmds : s.cmds with
  | nil =>
    rw [hcmds] at h
    cases h
    exact .inl ⟨rfl, rfl⟩
  | cons w rest =>
    simp only [hcmds] at h
    split at h
    · exact .inr ⟨w, rest, rfl, ‹_›, leaves_of_exec _ _ _ h⟩
    · cases h

end Sys2Proof.Machine
end

section
/-! PROOFS. Steps and runs (spec/30_encoding.md R76, spec/60_exceptions.md): the invariants of a good state are kept by
every part, so by every operation, step and run. -/

namespace Sys2Proof.Machine

open Sys2Proof

/-! ## The invariants -/

/-- No invariant speaks of the ports. -/
theorem State.Inv.withPorts {s : State} (h : s.Inv) (cs : List Command) (r : Option Response) :
    State.Inv { s with cmds := cs, rsp := r } :=
  ⟨h.cfgWf, h.dynLength, h.offsetBound, h.sqlIndexBound, h.filtBound, h.smeterBound, h.lineAgrees, h.lastIsActive,
    h.txTuned⟩

/-- R133: a successful Enter sets mode, line and frequencies together, so that they agree. -/
theorem enter_inv (tx : Bool) (f : Hz) {s : State} (h : s.Inv) : (enter tx f s).Inv := by
  rcases enter_cases tx f s with ⟨-, -, hfailed⟩ | ⟨d, oks, -, -, -, hentered⟩
  · rwa [hfailed]
  · rw [hentered]
    exact ⟨h.cfgWf, h.dynLength, h.offsetBound, h.sqlIndexBound, h.filtBound, h.smeterBound, rfl,
      by cases tx <;> rfl, by rintro rfl; simp⟩

theorem retune_inv {s : State} (h : s.Inv) : (retune s).Inv := by
  rcases retune_cases s with ⟨-, -, huntuned⟩ | ⟨f, -, -, htuned⟩
  · rwa [huntuned]
  · rw [htuned]
    exact enter_inv s.isTx f h

theorem clearErrors_inv {s : State} (h : s.Inv) : (clearErrors s).Inv :=
  ⟨h.cfgWf, h.dynLength, h.offsetBound, h.sqlIndexBound, h.filtBound, h.smeterBound, h.lineAgrees, h.lastIsActive,
    h.txTuned⟩

theorem chipResetBody_inv {s : State} (h : s.Inv) : (chipResetBody s).Inv := by
  rcases chipResetBody_cases s with ⟨-, hstate⟩ | ⟨f, -, hstate⟩
  · rw [hstate]
    exact clearErrors_inv h
  · rw [hstate]
    exact enter_inv false f (clearErrors_inv h)

theorem setOffset_inv (v : Int) {s : State} (h : s.Inv) : (setOffset v s).Inv :=
  ⟨h.cfgWf, h.dynLength, by rw [setOffset_toInt_eq]; omega, h.sqlIndexBound, h.filtBound, h.smeterBound,
    h.lineAgrees, h.lastIsActive, h.txTuned⟩

theorem writeDyn_inv (k : Nat) (v : RegValue) {s : State} (h : s.Inv) : (writeDyn k v s).Inv :=
  ⟨h.cfgWf, by rw [writeDyn_dyn, List.length_set]; exact h.dynLength, h.offsetBound, h.sqlIndexBound, h.filtBound,
    h.smeterBound, h.lineAgrees, h.lastIsActive, h.txTuned⟩

theorem readSqBody_inv {s : State} (h : s.Inv) : (readSqBody s).Inv :=
  ⟨h.cfgWf, h.dynLength, h.offsetBound, h.sqlIndexBound, h.filtBound, h.smeterBound, h.lineAgrees, h.lastIsActive,
    h.txTuned⟩

/-- R163: the filter is a weighted mean of the sample and its old value. -/
theorem filtNext_bounds {s : State} (h : 0 ≤ s.filt ∧ s.filt ≤ 255) : 0 ≤ filtNext s ∧ filtNext s ≤ 255 := by
  obtain ⟨hlow, hhigh⟩ := h
  have hrssi : (s.rssi.toNat : Rat) ≤ 255 := by exact_mod_cast Nat.le_of_lt_succ s.rssi.isLt
  have hrssi0 : (0 : Rat) ≤ s.rssi.toNat := Nat.cast_nonneg _
  rw [filtNext_eq]
  split <;> constructor <;> linarith

theorem detectBody_inv {s : State} (h : s.Inv) : (detectBody s).Inv :=
  ⟨h.cfgWf, h.dynLength, h.offsetBound, h.sqlIndexBound, filtNext_bounds h.filtBound, h.smeterBound, h.lineAgrees,
    h.lastIsActive, h.txTuned⟩

theorem agcBody_inv {s : State} (h : s.Inv) : (agcBody s).Inv := by
  rcases agcBody_cases s with hstate | hstate <;> rw [hstate]
  · exact h
  · exact writeDyn_inv _ _ h

theorem smeterBody_inv {s : State} (h : s.Inv) : (smeterBody s).Inv := by
  have hle := smeterOf_le s.cfg s.rssi.toNat
  exact ⟨h.cfgWf, h.dynLength, h.offsetBound, h.sqlIndexBound, h.filtBound,
    by simp only [smeterBody, BitVec.toNat_ofNat]; omega, h.lineAgrees, h.lastIsActive, h.txTuned⟩

theorem setIndex_inv (l : BitVec 8) {s : State} (h : s.Inv) : State.Inv { s with sqlIndex := sqlLevel l } :=
  ⟨h.cfgWf, h.dynLength, h.offsetBound, by simp, h.filtBound, h.smeterBound, h.lineAgrees, h.lastIsActive, h.txTuned⟩

theorem part_inv (p : Part) {s : State} (h : s.Inv) : (p.run s).Inv := by
  cases p with
  | enter tx f => exact enter_inv tx f h
  | retune => exact retune_inv h
  | reset => exact chipResetBody_inv h
  | setOffset v => exact setOffset_inv v h
  | readSq => exact readSqBody_inv h
  | detect => exact detectBody_inv h
  | agc => exact agcBody_inv h
  | smeter => exact smeterBody_inv h
  | setIndex l => exact setIndex_inv l h
  | writeDyn k v => exact writeDyn_inv k v h

theorem runParts_inv (ps : List Part) {s : State} (h : s.Inv) : (runParts ps s).Inv := by
  induction ps generalizing s with
  | nil => exact h
  | cons p ps ih => exact ih (part_inv p h)

theorem leaves_inv (i : Instr) {s : State} (h : s.Inv) : (leaves i s).Inv := by
  rw [leaves_eq]
  exact (runParts_inv _ h).withPorts _ _

/-- What an operation keeps and the presented commands do not touch, a step keeps. -/
theorem step_keeps {P : State → Prop} (hports : ∀ s cs, P s → P { s with cmds := cs })
    (hleaves : ∀ i s, P s → P (leaves i s)) {s t : State} (h : P s) (hstep : step s = .next t) : P t := by
  rcases step_cases hstep with ⟨-, rfl⟩ | ⟨w, rest, -, -, rfl⟩
  · exact h
  · exact hleaves _ _ (hports s rest h)

theorem step_inv {s t : State} (h : s.Inv) (hstep : step s = .next t) : t.Inv :=
  step_keeps (fun s cs h => h.withPorts cs s.rsp) (fun i _ h => leaves_inv i h) h hstep

/-! ## Steps and runs -/

theorem step_of_nil {s : State} (h : s.cmds = []) : step s = .next s := by
  unfold step fetch
  rw [h]

theorem step_of_cons {s : State} {w : Command} {rest : List Command} (hwf : s.cfg.wf = true)
    (h : s.cmds = w :: rest) : step s = exec (decode w) { s with cmds := rest } := by
  unfold step fetch
  rw [h]
  exact if_pos hwf

theorem step_refused {s : State} (h : s.cmds ≠ []) (hwf : s.cfg.wf = false) : step s = .refused .illFormedConfig := by
  obtain ⟨w, rest, hcmds⟩ := List.exists_cons_of_ne_nil h
  unfold step fetch
  rw [hcmds]
  exact if_neg (by simp [hwf])

/-- R220, R251: under a well-formed configuration a step gives a state, and takes one command if there is one. -/
theorem step_progress {s : State} (hwf : s.cfg.wf = true) : ∃ t, step s = .next t ∧ t.cmds = s.cmds.drop 1 := by
  cases h : s.cmds with
  | nil => exact ⟨s, step_of_nil h, by simp [h]⟩
  | cons w rest =>
    obtain ⟨-, hcmds, -⟩ := leaves_responded (decode w) { s with cmds := rest }
    exact ⟨_, (step_of_cons hwf h).trans (exec_eq_leaves _ _), hcmds⟩

/-- A run of k steps from a good state ends in a good state with k commands taken. -/
theorem run_safe (k : Nat) {s : State} (h : s.Inv) :
    ∃ t, Sys2Proof.core.run k s = .next t ∧ t.Inv ∧ t.cmds = s.cmds.drop k := by
  induction k generalizing s with
  | zero => exact ⟨s, rfl, h, rfl⟩
  | succ k ih =>
    obtain ⟨s', hstep, hcmds⟩ := step_progress h.cfgWf
    obtain ⟨t, hrun, hinv, hdrop⟩ := ih (step_inv h hstep)
    refine ⟨t, (core_run_succ k s s' hstep).trans hrun, hinv, ?_⟩
    rw [hdrop, hcmds, List.drop_drop, Nat.add_comm]

/-! ## Power-on -/

theorem powerOn_inv {c : Cfg} (h : c.wf = true) : (State.powerOn c).Inv where
  cfgWf := h
  dynLength := List.length_map _
  offsetBound := by
    have hoffset : (State.powerOn c).offset.toInt = 0 := BitVec.toInt_zero
    omega
  sqlIndexBound := c.wf_sqlReset h
  filtBound := ⟨le_rfl, by norm_num [State.powerOn]⟩
  smeterBound := Nat.zero_le _
  lineAgrees := rfl
  lastIsActive := rfl
  txTuned := nofun

/-- Before the first access the cache owes the chip nothing (R62). -/
theorem powerOn_cacheWritten (c : Cfg) : (State.powerOn c).CacheWritten :=
  fun _ _ _ hwritten => nomatch hwritten

/-- R140: nothing is tuned and nothing was written. -/
theorem powerOn_tunedTrace (c : Cfg) : (State.powerOn c).TunedTrace :=
  .inl ⟨rfl, fun _ hmem => nomatch hmem⟩

end Sys2Proof.Machine

namespace Sys2Proof.Proofs

open Sys2Proof Sys2Proof.Machine

/-- Settles O10: the parts keep the invariants, and the step's own work on the ports touches none. -/
theorem stepKeepsInvariants : Obligations.StepKeepsInvariants :=
  fun _ _ => step_inv

/-- Settles O12, by induction on the number of steps. -/
theorem everyRunIsSafe : Obligations.EveryRunIsSafe := by
  intro s k h
  obtain ⟨t, hrun, hinv, hcmds⟩ := run_safe k h
  refine ⟨⟨t, hrun, hinv⟩, fun u hu => ?_⟩
  cases hrun.symm.trans hu
  exact hcmds

/-- Settles O7. -/
theorem stepRunsDecodedCommand : Obligations.StepRunsDecodedCommand :=
  fun _ _ _ => step_of_cons

/-- Settles O8. -/
theorem stepIdleOrRefused : Obligations.StepIdleOrRefused :=
  fun _ => ⟨step_of_nil, step_refused⟩

/-- Settles O11. -/
theorem powerOnMeetsInvariants : Obligations.PowerOnMeetsInvariants :=
  ⟨fun c h => ⟨powerOn_inv h, powerOn_cacheWritten c, powerOn_tunedTrace c⟩,
    powerOn_inv (by decide), powerOn_cacheWritten _, powerOn_tunedTrace _⟩

end Sys2Proof.Proofs
end

section
/-! PROOFS. The encoding (spec/30_encoding.md): command words and response words. -/

namespace Sys2Proof.Machine

open Sys2Proof

/-! ## Command words -/

/-- R73: the decoder picks the operation by its code alone. -/
theorem opcode_decode (w : Command) : opcode (decode w) = opField w := by
  apply BitVec.eq_of_toNat_eq
  have hlt := (opField w).isLt
  unfold decode
  split <;> simp only [opcode, BitVec.ofNat_eq_ofNat, BitVec.toNat_ofNat]
  case h_32 =>
    simp only [imp_false] at *
    omega
  all_goals omega

theorem opField_encode (i : Instr) : opField (encode i) = opcode i := by
  cases i <;> exact opField_mkCommand _ _ _

/-- R204: a word with a reserved code decodes to the operation of that code. -/
theorem decode_reserved_word {i : Instr} (h : opcode i = 0 ∨ 0x12 ≤ (opcode i).toNat) (a1 a0 : BitVec 32) :
    decode (opcode i ++ a1 ++ a0) = i :=
  (Proofs.reservedCodesAreIllegal State.reset i h).1 a1 a0

/-- R204: a reserved operation has no operand to encode. -/
theorem encode_reserved {i : Instr} (h : opcode i = 0 ∨ 0x12 ≤ (opcode i).toNat) :
    encode i = mkCommand (opcode i) 0 0 := by
  cases i with
  | classify | synth | quantize | enterTx | enterRx | setOffsetHz | setOffsetPpm | setSql | setGain | dynWrite =>
    simp [opcode] at h
  | _ => rfl

theorem decode_encode_reserved {i : Instr} (h : opcode i = 0 ∨ 0x12 ≤ (opcode i).toNat) : decode (encode i) = i := by
  rw [encode_reserved h]
  exact decode_reserved_word h 0 0

/-- The codes of format N are the reserved ones and seven more (R71, R73). -/
theorem formatN_cases {op : BitVec 5} (h : op = 0 ∨ op ∈ [0x08, 0x09, 0x0A, 0x0B] ∨ 0x0F ≤ op.toNat) :
    (op = 0 ∨ 0x12 ≤ op.toNat) ∨ op ∈ [0x08, 0x09, 0x0A, 0x0B, 0x0F, 0x10, 0x11] := by
  revert op
  decide

/-- R71: format N reads neither argument. -/
theorem decode_formatN {op : BitVec 5} (h : op = 0 ∨ op ∈ [0x08, 0x09, 0x0A, 0x0B] ∨ 0x0F ≤ op.toNat)
    (a1 a0 b1 b0 : BitVec 32) : decode (op ++ a1 ++ a0) = decode (op ++ b1 ++ b0) := by
  rcases formatN_cases h with hreserved | hop
  · have hcode : opcode (decode (op ++ b1 ++ b0)) = op :=
      (opcode_decode _).trans (opField_mkCommand op b1 b0)
    rw [← hcode] at hreserved
    have hdecode := decode_reserved_word hreserved a1 a0
    rwa [hcode] at hdecode
  · simp only [List.mem_cons, List.not_mem_nil, or_false, BitVec.ofNat_eq_ofNat] at hop
    obtain rfl | rfl | rfl | rfl | rfl | rfl | rfl := hop
    · rw [decode_readSq_word, decode_readSq_word]
    · rw [decode_detect_word, decode_detect_word]
    · rw [decode_agc_word, decode_agc_word]
    · rw [decode_smeter_word, decode_smeter_word]
    · rw [decode_isError_word, decode_isError_word]
    · rw [decode_chipReset_word, decode_chipReset_word]
    · rw [decode_tick_word, decode_tick_word]

/-- R71: formats F and S do not read `a1`. -/
theorem decode_formatF {op : BitVec 5} (h : op ∈ [0x01, 0x04, 0x05, 0x06, 0x07]) (a1 a0 b1 : BitVec 32) :
    decode (op ++ a1 ++ a0) = decode (op ++ b1 ++ a0) := by
  simp only [List.mem_cons, List.not_mem_nil, or_false, BitVec.ofNat_eq_ofNat] at h
  obtain rfl | rfl | rfl | rfl | rfl := h
  · rw [decode_classify_word, decode_classify_word]
  · rw [decode_enterTx_word, decode_enterTx_word]
  · rw [decode_enterRx_word, decode_enterRx_word]
  · rw [decode_setOffsetHz_word, decode_setOffsetHz_word]
  · rw [decode_setOffsetPpm_word, decode_setOffsetPpm_word]

/-- R71: format L reads the low byte of `a0` only. -/
theorem decode_formatL {op : BitVec 5} (h : op ∈ [0x0C, 0x0D]) {a1 a0 b1 b0 : BitVec 32}
    (hlevel : a0.extractLsb' 0 8 = b0.extractLsb' 0 8) : decode (op ++ a1 ++ a0) = decode (op ++ b1 ++ b0) := by
  simp only [List.mem_cons, List.not_mem_nil, or_false, BitVec.ofNat_eq_ofNat] at h
  obtain rfl | rfl := h
  · rw [decode_setSql_word, decode_setSql_word, hlevel]
  · rw [decode_setGain_word, decode_setGain_word, hlevel]

/-! ## Response words -/

/-- R74: the response word, bit by bit. -/
theorem word_getLsbD (r : Response) (i : Nat) : r.word.getLsbD i =
    if i < 32 then r.r1.getLsbD i else if i < 96 then r.r0.getLsbD (i - 32) else r.status.code.getLsbD (i - 96) := by
  show (r.status.code ++ r.r0 ++ r.r1 : BitVec (3 + 64 + 32)).getLsbD i = _
  simp only [BitVec.getLsbD_append]
  split_ifs
  · rfl
  · rfl
  · omega
  · omega
  · rw [Nat.sub_sub]

theorem word_status (r : Response) : r.word.extractLsb' 96 3 = r.status.code := by
  apply BitVec.eq_of_getLsbD_eq
  intro i hi
  rw [BitVec.getLsbD_extractLsb', word_getLsbD, if_neg (by omega), if_neg (by omega)]
  simp [hi]

theorem word_r0 (r : Response) : r.word.extractLsb' 32 64 = r.r0 := by
  apply BitVec.eq_of_getLsbD_eq
  intro i hi
  rw [BitVec.getLsbD_extractLsb', word_getLsbD, if_neg (by omega), if_pos (by omega)]
  simp [hi]

theorem word_r1 (r : Response) : r.word.extractLsb' 0 32 = r.r1 := by
  apply BitVec.eq_of_getLsbD_eq
  intro i hi
  rw [BitVec.getLsbD_extractLsb', word_getLsbD, if_pos (by omega)]
  simp [hi]

end Sys2Proof.Machine

namespace Sys2Proof.Proofs

open Sys2Proof Sys2Proof.Machine

/-- Settles O1: each operand is read back from the field its format gives it. -/
theorem decodeOfEncode : Obligations.DecodeOfEncode := by
  intro i
  cases i with
  | classify f => exact decode_classify_word 0 f
  | synth t r => exact (decode_synth_word _ t).trans (congrArg _ (zeroExt8_extract r))
  | quantize f st => exact decode_quantize_word st f
  | enterTx f => exact decode_enterTx_word 0 f
  | enterRx f => exact decode_enterRx_word 0 f
  | setOffsetHz v => exact decode_setOffsetHz_word 0 v
  | setOffsetPpm v => exact decode_setOffsetPpm_word 0 v
  | readSq => exact decode_readSq_word 0 0
  | detect => exact decode_detect_word 0 0
  | agc => exact decode_agc_word 0 0
  | smeter => exact decode_smeter_word 0 0
  | setSql l => exact (decode_setSql_word 0 _).trans (congrArg _ (zeroExt8_extract l))
  | setGain l => exact (decode_setGain_word 0 _).trans (congrArg _ (zeroExt8_extract l))
  | dynWrite k m v =>
    refine (decode_dynWrite_word (m ++ v) (zeroExt8 k)).trans ?_
    rw [zeroExt8_extract, maskValue_mask, maskValue_value]
  | isError => exact decode_isError_word 0 0
  | chipReset => exact decode_chipReset_word 0 0
  | tick => exact decode_tick_word 0 0
  | reserved00 | reserved12 | reserved13 | reserved14 | reserved15 | reserved16 | reserved17 | reserved18 | reserved19
  | reserved1A | reserved1B | reserved1C | reserved1D | reserved1E | reserved1F =>
    exact decode_encode_reserved (by decide)

/-- Settles O2. -/
theorem opcodeSelectsOperation : Obligations.OpcodeSelectsOperation :=
  fun w => ⟨opcode_decode w, (opField_encode _).trans (opcode_decode w)⟩

/-- Settles O3, format by format. -/
theorem ignoredFieldsHaveNoEffect : Obligations.IgnoredFieldsHaveNoEffect := by
  intro op a1 a0 b1 b0
  refine ⟨fun h => decode_formatN h a1 a0 b1 b0, fun h => decode_formatF h a1 a0 b1, ?formatFR,
    fun h hlevel => decode_formatL h hlevel, ?formatD⟩
  case formatFR =>
    rintro rfl hratio
    change decode (0x02#5 ++ a1 ++ a0) = decode (0x02#5 ++ b1 ++ a0)
    rw [decode_synth_word, decode_synth_word, hratio]
  case formatD =>
    rintro rfl hk
    change decode (0x0E#5 ++ a1 ++ a0) = decode (0x0E#5 ++ a1 ++ b0)
    rw [decode_dynWrite_word, decode_dynWrite_word, hk]

/-- Settles O4: each word is evaluated. -/
theorem writtenWordsDecode : Obligations.WrittenWordsDecode :=
  ⟨by decide, by decide, by decide, by decide, by decide, by decide, by decide, by decide⟩

/-- Settles O5. -/
theorem responseWordFields : Obligations.ResponseWordFields :=
  ⟨fun r => ⟨word_status r, word_r0 r, word_r1 r⟩, rfl, rfl, rfl, rfl, rfl, rfl⟩

end Sys2Proof.Proofs
end

section
/-! PROOFS. What each part leaves unchanged, and so each operation (spec/10_state.md), the line RETUNE among them
(spec/30_encoding.md R78); which statuses an operation can answer, and what it leaves behind with an error status
(spec/60_exceptions.md section 1). -/

namespace Sys2Proof.Machine

open Sys2Proof

/-! ## The parts an operation uses -/

/-- The operations whose program has a part. -/
def Part.UsedBy (i : Instr) : Part → Prop
  | .enter tx f => i = if tx then .enterTx f else .enterRx f
  | .retune => (∃ v, i = .setOffsetHz v) ∨ ∃ v, i = .setOffsetPpm v
  | .reset => i ∈ [.chipReset, .tick]
  | .setOffset _ => (∃ v, i = .setOffsetHz v) ∨ ∃ v, i = .setOffsetPpm v
  | .readSq => i ∈ [.readSq, .tick]
  | .detect => i ∈ [.detect, .tick]
  | .agc => i ∈ [.agc, .tick]
  | .smeter => i ∈ [.smeter, .tick]
  | .setIndex l => i = .setSql l
  | .writeDyn _ _ => (∃ l, i = .setSql l) ∨ (∃ l, i = .setGain l) ∨ ∃ k m v, i = .dynWrite k m v

theorem program_usedBy (i : Instr) (s : State) : ∀ p ∈ program i s, p.UsedBy i := by
  cases i with
  | setOffsetPpm v => cases h : s.lastUserFreq <;> simp [program, h, Part.UsedBy]
  | dynWrite k m v => by_cases h : s.cfg.nDyn ≤ k.toNat <;> simp [program, h, Part.UsedBy]
  | tick => cases h : s.isError <;> simp [program, h, Part.UsedBy]
  | _ => simp [program, Part.UsedBy]

/-- A view of the state that every part of an operation keeps, and that is not of the response port, is kept by the
operation. -/
theorem leaves_field {α : Type} (φ : State → α) (hport : ∀ s r, φ { s with rsp := r } = φ s) {i : Instr} (s : State)
    (h : ∀ p : Part, p.UsedBy i → ∀ t, φ (p.run t) = φ t) : φ (leaves i s) = φ s := by
  rw [leaves_eq, hport]
  exact runParts_rel (R := fun s t => φ t = φ s) (fun _ => rfl) (fun _ _ _ hst htu => htu.trans hst)
    fun p hp t _ => h p (program_usedBy i s p hp) t

/-! ## What each part leaves unchanged -/

/-- What tuning leaves unchanged, whether it succeeds or not (R133, R134). -/
structure TuningFrame (s t : State) : Prop where
  offset : t.offset = s.offset
  dyn : t.dyn = s.dyn
  sqlIndex : t.sqlIndex = s.sqlIndex
  sample : t.rssi = s.rssi ∧ t.snr = s.snr
  detector : t.filt = s.filt ∧ t.det = s.det
  smeter : t.smeter = s.smeter

theorem enter_tuningFrame (tx : Bool) (f : Hz) (s : State) : TuningFrame s (enter tx f s) := by
  rcases enter_cases tx f s with ⟨-, -, hfailed⟩ | ⟨d, oks, -, -, -, hentered⟩
  · rw [hfailed]
    exact ⟨rfl, rfl, rfl, ⟨rfl, rfl⟩, ⟨rfl, rfl⟩, rfl⟩
  · rw [hentered]
    exact ⟨rfl, rfl, rfl, ⟨rfl, rfl⟩, ⟨rfl, rfl⟩, rfl⟩

theorem retune_tuningFrame (s : State) : TuningFrame s (retune s) := by
  rcases retune_cases s with ⟨-, -, huntuned⟩ | ⟨f, -, -, htuned⟩
  · rw [huntuned]
    exact ⟨rfl, rfl, rfl, ⟨rfl, rfl⟩, ⟨rfl, rfl⟩, rfl⟩
  · rw [htuned]
    exact enter_tuningFrame s.isTx f s

theorem chipResetBody_tuningFrame (s : State) : TuningFrame s (chipResetBody s) := by
  rcases chipResetBody_cases s with ⟨-, hstate⟩ | ⟨f, -, hstate⟩ <;> rw [hstate]
  · exact ⟨rfl, rfl, rfl, ⟨rfl, rfl⟩, ⟨rfl, rfl⟩, rfl⟩
  · have h := enter_tuningFrame false f (clearErrors s)
    exact ⟨h.offset, h.dyn, h.sqlIndex, h.sample, h.detector, h.smeter⟩

/-- What an Enter of one mode leaves of the other mode's frequency (R24, R25). -/
theorem enter_otherFreq (f : Hz) (s : State) :
    (enter true f s).rxFreq = s.rxFreq ∧ (enter false f s).txFreq = s.txFreq := by
  constructor
  · rcases enter_cases true f s with ⟨-, -, hstate⟩ | ⟨d, oks, -, -, -, hstate⟩ <;>
      simp [hstate, afterAccesses]
  · rcases enter_cases false f s with ⟨-, -, hstate⟩ | ⟨d, oks, -, -, -, hstate⟩ <;>
      simp [hstate, afterAccesses]

/-- R135: re-tuning the active mode with its own frequency writes mode and frequencies back as they were. -/
theorem retune_mode (s : State) :
    (retune s).isTx = s.isTx ∧ (retune s).txFreq = s.txFreq ∧ (retune s).rxFreq = s.rxFreq := by
  rcases retune_cases s with ⟨-, -, huntuned⟩ | ⟨f, hactive, -, htuned⟩
  · rw [huntuned]
    exact ⟨rfl, rfl, rfl⟩
  · rw [htuned]
    rcases enter_cases s.isTx f s with ⟨-, -, hfailed⟩ | ⟨d, oks, -, -, -, hentered⟩
    · rw [hfailed]
      exact ⟨rfl, rfl, rfl⟩
    · rw [hentered]
      unfold State.activeFreq at hactive
      cases htx : s.isTx <;> simp_all [afterAccesses]

/-- R133, R135: in a good state line and last user frequency are those of the active mode, so a re-tune keeps them. -/
theorem retune_line_last {s : State} (h : s.Inv) :
    (retune s).modeLine = s.modeLine ∧ (retune s).lastUserFreq = s.lastUserFreq := by
  have h' := retune_inv h
  obtain ⟨htx, htxFreq, hrxFreq⟩ := retune_mode s
  rw [h'.lineAgrees, h.lineAgrees, h'.lastIsActive, h.lastIsActive, State.activeFreq, State.activeFreq, htx, htxFreq,
    hrxFreq, (retune_inputsKept s).2]
  exact ⟨rfl, rfl⟩

/-- R202: CHIP_RESET enters RX at the RX frequency it has. -/
theorem chipResetBody_freqs (s : State) :
    (chipResetBody s).txFreq = s.txFreq ∧ (chipResetBody s).rxFreq = s.rxFreq := by
  rcases chipResetBody_cases s with ⟨-, hstate⟩ | ⟨f, hrx, hstate⟩ <;> rw [hstate]
  · exact ⟨rfl, rfl⟩
  · refine ⟨(enter_otherFreq f (clearErrors s)).2, ?_⟩
    rcases enter_cases false f (clearErrors s) with ⟨-, -, hfailed⟩ | ⟨d, oks, -, -, -, hentered⟩
    · rw [hfailed]
      rfl
    · rw [hentered]
      exact hrx.symm

/-- The elements that a part is the only one to write, each kept by all other parts. -/
structure Part.Frame (p : Part) (s t : State) : Prop where
  txFreq : (∀ f, p ≠ .enter true f) → t.txFreq = s.txFreq
  rxFreq : (∀ f, p ≠ .enter false f) → t.rxFreq = s.rxFreq
  isTx : (∀ tx f, p ≠ .enter tx f) → p ≠ .reset → t.isTx = s.isTx
  line_last : (∀ tx f, p ≠ .enter tx f) → p ≠ .reset → s.Inv →
    t.modeLine = s.modeLine ∧ t.lastUserFreq = s.lastUserFreq
  offset : (∀ v, p ≠ .setOffset v) → t.offset = s.offset
  sqlIndex : (∀ l, p ≠ .setIndex l) → t.sqlIndex = s.sqlIndex
  dyn : p ≠ .agc → (∀ k v, p ≠ .writeDyn k v) → t.dyn = s.dyn
  sample : p ≠ .readSq → t.rssi = s.rssi ∧ t.snr = s.snr
  detector : p ≠ .detect → t.filt = s.filt ∧ t.det = s.det
  smeter : p ≠ .smeter → t.smeter = s.smeter

/-- R22 to R38, part by part. -/
theorem part_frame (p : Part) (s : State) : p.Frame s (p.run s) := by
  cases p with
  | enter tx f =>
    have h := enter_tuningFrame tx f s
    obtain ⟨hrx, htx⟩ := enter_otherFreq f s
    refine ⟨fun hne => ?_, fun hne => ?_, fun hne => absurd rfl (hne tx f), fun hne => absurd rfl (hne tx f),
      fun _ => h.offset, fun _ => h.sqlIndex, fun _ _ => h.dyn, fun _ => h.sample, fun _ => h.detector,
      fun _ => h.smeter⟩
    · cases tx with
      | true => exact absurd rfl (hne f)
      | false => exact htx
    · cases tx with
      | true => exact hrx
      | false => exact absurd rfl (hne f)
  | retune =>
    have h := retune_tuningFrame s
    obtain ⟨htx, htxFreq, hrxFreq⟩ := retune_mode s
    exact ⟨fun _ => htxFreq, fun _ => hrxFreq, fun _ _ => htx, fun _ _ => retune_line_last, fun _ => h.offset,
      fun _ => h.sqlIndex, fun _ _ => h.dyn, fun _ => h.sample, fun _ => h.detector, fun _ => h.smeter⟩
  | reset =>
    have h := chipResetBody_tuningFrame s
    obtain ⟨htxFreq, hrxFreq⟩ := chipResetBody_freqs s
    exact ⟨fun _ => htxFreq, fun _ => hrxFreq, fun _ hne => absurd rfl hne, fun _ hne => absurd rfl hne,
      fun _ => h.offset, fun _ => h.sqlIndex, fun _ _ => h.dyn, fun _ => h.sample, fun _ => h.detector,
      fun _ => h.smeter⟩
  | agc =>
    change Part.Frame _ s (agcBody s)
    rcases agcBody_cases s with hstate | hstate <;> rw [hstate] <;> constructor <;> simp [writeField]
  | setOffset | readSq | detect | smeter | setIndex | writeDyn => constructor <;> simp [Part.run]


/-- In a good state mode, line and last user frequency change only through ENTER_TX, ENTER_RX, CHIP_RESET and TICK. -/
theorem leaves_line_last {i : Instr} {s : State} (hinv : s.Inv) (htx : ∀ f, i ≠ .enterTx f)
    (hrx : ∀ f, i ≠ .enterRx f) (hreset : i ∉ [.chipReset, .tick]) :
    (leaves i s).modeLine = s.modeLine ∧ (leaves i s).lastUserFreq = s.lastUserFreq := by
  have hbody : (runParts (program i s) s).Inv ∧ (runParts (program i s) s).modeLine = s.modeLine ∧
      (runParts (program i s) s).lastUserFreq = s.lastUserFreq := by
    refine runParts_rel
      (R := fun s t => s.Inv → t.Inv ∧ t.modeLine = s.modeLine ∧ t.lastUserFreq = s.lastUserFreq)
      (fun _ h => ⟨h, rfl, rfl⟩) ?trans ?part hinv
    case trans =>
      intro s t u hst htu h
      obtain ⟨ht, hline, hlast⟩ := hst h
      obtain ⟨hu, hline', hlast'⟩ := htu ht
      exact ⟨hu, hline'.trans hline, hlast'.trans hlast⟩
    case part =>
      intro p hp t _ ht
      have hused := program_usedBy i s p hp
      refine ⟨part_inv p ht, (part_frame p t).line_last ?_ ?_ ht⟩
      · rintro (_ | _) f rfl
        · exact hrx f hused
        · exact htx f hused
      · rintro rfl
        exact hreset hused
  rw [leaves_eq]
  exact hbody.2

theorem leaves_setOffsetPpm_of_none (v : BitVec 32) {s : State} (h : s.lastUserFreq = none) :
    leaves (.setOffsetPpm v) s = { s with rsp := some ⟨.noFreq, 0, 0⟩ } :=
  (leaves_of_exec _ _ _ (exec_setOffsetPpm_of_none v h)).symm

theorem leaves_setOffsetPpm_of_some (v : BitVec 32) {s : State} {g : Hz} (h : s.lastUserFreq = some g) :
    leaves (.setOffsetPpm v) s = offsetAndRetune (g.toNat * v.toInt) s :=
  (leaves_of_exec _ _ _ (exec_setOffsetPpm_of_some v h)).symm

/-- SET_OFFSET_HZ leaves the clamped offset, whatever its re-tune does (R138). -/
theorem setOffsetHz_offset (v : BitVec 32) (s : State) :
    (leaves (.setOffsetHz v) s).offset = (setOffset (v.toInt * 10 ^ 9) s).offset :=
  (retune_tuningFrame (setOffset (v.toInt * 10 ^ 9) s)).offset

/-! ## RETUNE (R78) -/

theorem assembleInstr_retune (offset : BitVec 64) : assembleInstr offset "RETUNE".toList = retuneLine offset := rfl

/-- R27, R78: an offset in bound that is a whole number of Hz is the operand of a SET_OFFSET_HZ. -/
theorem retuneLine_of_dvd {offset : BitVec 64}
    (hbound : -(50000 * 10 ^ 9) ≤ offset.toInt ∧ offset.toInt ≤ 50000 * 10 ^ 9) (h : offset.toInt % 10 ^ 9 = 0) :
    ∃ v : BitVec 32, v.toInt * 10 ^ 9 = offset.toInt ∧ retuneLine offset = .ok (.setOffsetHz v) := by
  have hquot : -50000 ≤ offset.toInt / 10 ^ 9 ∧ offset.toInt / 10 ^ 9 ≤ 50000 := by omega
  refine ⟨BitVec.ofInt 32 (offset.toInt / 10 ^ 9), ?_, ?_⟩
  · rw [BitVec.toInt_ofInt, Int.bmod_def]
    omega
  · have hrange : -(2 ^ 31) ≤ offset.toInt / nhzPerHz ∧ offset.toInt / nhzPerHz < 2 ^ 31 := by
      rw [nhzPerHz]
      omega
    have hwhole : offset.toInt % nhzPerHz = 0 := h
    rw [retuneLine, if_pos hwhole, asSigned32, if_pos hrange]
    rfl

theorem retuneLine_of_not_dvd {offset : BitVec 64} (h : offset.toInt % 10 ^ 9 ≠ 0) :
    retuneLine offset = .error .offsetNotWholeHz :=
  if_neg h

/-! ## Statuses -/

/-- R133, R134: an Enter that does not answer OK answers UNSUPPORTED and has done nothing. -/
theorem enter_of_not_ok {tx : Bool} {f : Hz} {s : State} (h : enterStatus tx f s ≠ .ok) :
    enterStatus tx f s = .unsupported ∧ enter tx f s = s := by
  rcases enter_cases tx f s with ⟨-, hstatus, hstate⟩ | ⟨d, oks, -, hstatus, -⟩
  · exact ⟨hstatus, hstate⟩
  · exact absurd hstatus h

theorem retune_of_not_ok {s : State} (h : retuneStatus s ≠ .ok) :
    retuneStatus s = .unsupported ∧ retune s = s := by
  rcases retune_cases s with ⟨-, hstatus, -⟩ | ⟨f, -, hstatus, hstate⟩
  · exact absurd hstatus h
  · rw [hstatus] at h ⊢
    rw [hstate]
    exact enter_of_not_ok h

theorem chipReset_of_not_ok {s : State} (h : chipResetStatus s ≠ .ok) :
    chipResetStatus s = .unsupported ∧ chipResetBody s = clearErrors s := by
  cases hrx : s.rxFreq with
  | none => exact absurd (chipReset_of_none hrx).2 h
  | some f =>
    obtain ⟨hstate, hstatus⟩ := chipReset_of_some hrx
    rw [hstatus] at h ⊢
    rw [hstate]
    exact enter_of_not_ok h

/-- R75: the statuses that an operation's rule names. -/
def statusesOf : Instr → List Status
  | .classify _ => [.ok, .unsupported]
  | .synth _ _ => [.ok, .overflow]
  | .quantize _ _ => [.ok]
  | .enterTx _ => [.ok, .unsupported]
  | .enterRx _ => [.ok, .unsupported]
  | .setOffsetHz _ => [.ok, .unsupported]
  | .setOffsetPpm _ => [.ok, .unsupported, .noFreq]
  | .readSq => [.ok]
  | .detect => [.ok]
  | .agc => [.ok]
  | .smeter => [.ok]
  | .setSql _ => [.ok]
  | .setGain _ => [.ok]
  | .dynWrite _ _ _ => [.ok, .badIndex]
  | .isError => [.ok]
  | .chipReset => [.ok, .unsupported]
  | .tick => [.ok, .unsupported]
  | .reserved00 => [.illegal]
  | .reserved12 => [.illegal]
  | .reserved13 => [.illegal]
  | .reserved14 => [.illegal]
  | .reserved15 => [.illegal]
  | .reserved16 => [.illegal]
  | .reserved17 => [.illegal]
  | .reserved18 => [.illegal]
  | .reserved19 => [.illegal]
  | .reserved1A => [.illegal]
  | .reserved1B => [.illegal]
  | .reserved1C => [.illegal]
  | .reserved1D => [.illegal]
  | .reserved1E => [.illegal]
  | .reserved1F => [.illegal]

theorem enterStatus_mem (tx : Bool) (f : Hz) (s : State) : enterStatus tx f s ∈ [Status.ok, .unsupported] := by
  by_cases h : enterStatus tx f s = .ok
  · simp [h]
  · simp [(enter_of_not_ok h).1]

theorem retuneStatus_mem (s : State) : retuneStatus s ∈ [Status.ok, .unsupported] := by
  by_cases h : retuneStatus s = .ok
  · simp [h]
  · simp [(retune_of_not_ok h).1]

theorem chipResetStatus_mem (s : State) : chipResetStatus s ∈ [Status.ok, .unsupported] := by
  by_cases h : chipResetStatus s = .ok
  · simp [h]
  · simp [(chipReset_of_not_ok h).1]

/-- Every operation answers one of the statuses its rule names. -/
theorem leaves_status {i : Instr} {s : State} {r : Response} (h : (leaves i s).rsp = some r) :
    r.status ∈ statusesOf i := by
  cases i with
  | classify f =>
    cases h
    cases hrow : classify (nhz f) <;> simp [classifyResponse, statusesOf]
  | synth f d =>
    cases h
    simp only [synthResponse]
    split <;> simp [statusesOf]
  | enterTx f =>
    cases h
    exact enterStatus_mem true f s
  | enterRx f =>
    cases h
    exact enterStatus_mem false f s
  | setOffsetHz v =>
    cases h
    exact retuneStatus_mem _
  | setOffsetPpm v =>
    obtain hlast | ⟨g, hlast⟩ := Option.eq_none_or_eq_some s.lastUserFreq
    · rw [leaves_setOffsetPpm_of_none v hlast] at h
      cases h
      simp [statusesOf]
    · rw [leaves_setOffsetPpm_of_some v hlast] at h
      cases h
      exact List.mem_append_left [Status.noFreq] (retuneStatus_mem _)
  | dynWrite k m v =>
    simp only [leaves, afterDynWrite] at h
    split at h <;> cases h <;> simp [statusesOf]
  | chipReset =>
    cases h
    exact chipResetStatus_mem s
  | tick =>
    cases h
    unfold tickStatus
    split
    · exact chipResetStatus_mem s
    · simp [statusesOf]
  | _ =>
    cases h
    exact List.mem_singleton_self _

/-- R204: the reserved operations answer ILLEGAL and nothing else. -/
theorem statusesOf_reserved {i : Instr} (h : opcode i = 0 ∨ 0x12 ≤ (opcode i).toNat) : statusesOf i = [.illegal] := by
  cases i with
  | classify | synth | quantize | enterTx | enterRx | setOffsetHz | setOffsetPpm | readSq | detect | agc | smeter
  | setSql | setGain | dynWrite | isError | chipReset | tick => simp [opcode] at h
  | _ => rfl

theorem reserved_of_illegal_mem {i : Instr} (h : .illegal ∈ statusesOf i) :
    opcode i = 0 ∨ 0x12 ≤ (opcode i).toNat := by
  cases i with
  | classify | synth | quantize | enterTx | enterRx | setOffsetHz | setOffsetPpm | readSq | detect | agc | smeter
  | setSql | setGain | dynWrite | isError | chipReset | tick => simp [statusesOf] at h
  | _ => decide

/-- What an operation that answers another status than OK has done: nothing but to respond, with the two exceptions of
R222. -/
theorem leaves_of_not_ok {i : Instr} {s : State} {r : Response} (h : (leaves i s).rsp = some r) (hr : r.status ≠ .ok)
    (hi : i ≠ .tick) :
    (((∃ v, i = .setOffsetHz v) ∨ ∃ v, i = .setOffsetPpm v) ∧ r.status = .unsupported ∧
      ∃ v, leaves i s = { setOffset v s with rsp := some r }) ∨
    (i = .chipReset ∧ r.status = .unsupported ∧ leaves i s = { clearErrors s with rsp := some r }) ∨
    leaves i s = { s with rsp := some r } := by
  cases i with
  | enterTx f =>
    cases h
    obtain ⟨-, hstate⟩ := enter_of_not_ok hr
    rw [leaves, hstate]
    exact .inr (.inr rfl)
  | enterRx f =>
    cases h
    obtain ⟨-, hstate⟩ := enter_of_not_ok hr
    rw [leaves, hstate]
    exact .inr (.inr rfl)
  | setOffsetHz v =>
    cases h
    obtain ⟨hstatus, hstate⟩ := retune_of_not_ok hr
    refine .inl ⟨.inl ⟨v, rfl⟩, hstatus, signedOperand v * nhzPerHz, ?_⟩
    rw [leaves, offsetAndRetune, hstate]
    rfl
  | setOffsetPpm v =>
    obtain hlast | ⟨g, hlast⟩ := Option.eq_none_or_eq_some s.lastUserFreq
    · rw [leaves_setOffsetPpm_of_none v hlast] at h ⊢
      cases h
      exact .inr (.inr rfl)
    · rw [leaves_setOffsetPpm_of_some v hlast] at h ⊢
      cases h
      obtain ⟨hstatus, hstate⟩ := retune_of_not_ok hr
      refine .inl ⟨.inr ⟨v, rfl⟩, hstatus, g.toNat * v.toInt, ?_⟩
      rw [offsetAndRetune, hstate]
      rfl
  | dynWrite k m v =>
    simp only [leaves, afterDynWrite] at h ⊢
    split at h
    · cases h
      exact .inr (.inr (if_pos ‹_›))
    · cases h
      exact absurd rfl hr
  | chipReset =>
    cases h
    obtain ⟨hstatus, hstate⟩ := chipReset_of_not_ok hr
    refine .inr (.inl ⟨rfl, hstatus, ?_⟩)
    rw [leaves, hstate]
    rfl
  | tick => exact absurd rfl hi
  | readSq | detect | agc | smeter | setSql | setGain =>
    cases h
    exact absurd rfl hr
  | _ =>
    cases h
    exact .inr (.inr rfl)

end Sys2Proof.Machine

namespace Sys2Proof.Proofs

open Sys2Proof Sys2Proof.Machine

/-- Settles O6: the operand is the offset in Hz, so in a good state the clamp of SET_OFFSET_HZ gives the offset back. -/
theorem retuneLineKeepsOffset : Obligations.RetuneLineKeepsOffset := by
  intro s hinv
  rw [assembleInstr_retune]
  by_cases h : s.offset.toInt % 10 ^ 9 = 0
  case neg =>
    rw [retuneLine_of_not_dvd h]
    exact ⟨iff_of_false (by simp) h, by simp⟩
  case pos =>
    obtain ⟨v, hv, hline⟩ := retuneLine_of_dvd hinv.offsetBound h
    refine ⟨iff_of_true ⟨_, hline⟩ h, fun i t hi ht => ?_⟩
    rw [hline] at hi
    cases hi
    obtain rfl := leaves_of_exec _ _ _ ht
    apply BitVec.eq_of_toInt_eq
    have hbound := hinv.offsetBound
    rw [setOffsetHz_offset, setOffset_toInt_eq]
    omega

/-- Settles O17: of the parts that an operation uses, none but a named writer's writes the element. -/
theorem onlyTheNamedWriters : Obligations.OnlyTheNamedWriters := by
  intro i s t ht
  obtain rfl := leaves_of_exec i s t ht
  refine ⟨fun htx => ?txFreq, fun hrx => ?rxFreq, fun htx hrx hreset => ⟨?isTx, fun hinv => ?line⟩,
    fun hhz hppm => ?offset, fun hsql => ?sqlIndex, fun hsql hgain hdyn hagc => ?dyn, fun hi => ?sample,
    fun hi => ?detector, fun hi => ?smeter, ?cfg⟩
  case txFreq =>
    refine leaves_field State.txFreq (fun _ _ => rfl) s fun p hp t => (part_frame p t).txFreq ?_
    rintro f rfl
    exact htx f hp
  case rxFreq =>
    refine leaves_field State.rxFreq (fun _ _ => rfl) s fun p hp t => (part_frame p t).rxFreq ?_
    rintro f rfl
    exact hrx f hp
  case isTx =>
    refine leaves_field State.isTx (fun _ _ => rfl) s fun p hp t => (part_frame p t).isTx ?_ ?_
    · rintro (_ | _) f rfl
      · exact hrx f hp
      · exact htx f hp
    · rintro rfl
      exact hreset hp
  case line => exact leaves_line_last hinv htx hrx hreset
  case offset =>
    refine leaves_field State.offset (fun _ _ => rfl) s fun p hp t => (part_frame p t).offset ?_
    rintro v rfl
    exact hp.elim (fun ⟨v, hv⟩ => hhz v hv) fun ⟨v, hv⟩ => hppm v hv
  case sqlIndex =>
    refine leaves_field State.sqlIndex (fun _ _ => rfl) s fun p hp t => (part_frame p t).sqlIndex ?_
    rintro l rfl
    exact hsql l hp
  case dyn =>
    refine leaves_field State.dyn (fun _ _ => rfl) s fun p hp t => (part_frame p t).dyn ?_ ?_
    · rintro rfl
      exact hagc hp
    · rintro k v rfl
      obtain ⟨l, hl⟩ | ⟨l, hl⟩ | ⟨k, m, v, hv⟩ := hp
      · exact hsql l hl
      · exact hgain l hl
      · exact hdyn k m v hv
  case sample =>
    have h := leaves_field (fun t => (t.rssi, t.snr)) (fun _ _ => rfl) (i := i) s fun p hp t =>
      Prod.ext_iff.2 ((part_frame p t).sample (by rintro rfl; exact hi hp))
    exact Prod.ext_iff.1 h
  case detector =>
    have h := leaves_field (fun t => (t.filt, t.det)) (fun _ _ => rfl) (i := i) s fun p hp t =>
      Prod.ext_iff.2 ((part_frame p t).detector (by rintro rfl; exact hi hp))
    exact Prod.ext_iff.1 h
  case smeter =>
    refine leaves_field State.smeter (fun _ _ => rfl) s fun p hp t => (part_frame p t).smeter ?_
    rintro rfl
    exact hi hp
  case cfg => exact leaves_field State.cfg (fun _ _ => rfl) s fun p _ t => part_cfg p t

/-- Settles O19. -/
theorem errorStatusesArePrecise : Obligations.ErrorStatusesArePrecise := by
  intro i s t r ht hrsp hr hi
  obtain rfl := leaves_of_exec i s t ht
  rcases leaves_of_not_ok hrsp hr hi with ⟨hoffset, hstatus, v, hstate⟩ | hreset | hsame
  · refine .inl ⟨hoffset, hstatus, ?_⟩
    rw [hstate]
    rfl
  · exact .inr (.inl hreset)
  · exact .inr (.inr hsame)

/-- Settles O20, from the table of the statuses that each operation answers. -/
theorem statusesOfEachOperation : Obligations.StatusesOfEachOperation := by
  intro i s t r ht hrsp
  obtain rfl := leaves_of_exec i s t ht
  have hmem := leaves_status hrsp
  refine ⟨fun h => ?unsupported, fun h => ?noFreq, fun h => ?overflow, ⟨fun h => ?illegal, fun h => ?reserved⟩,
    fun h => ?badIndex⟩
  case illegal => exact reserved_of_illegal_mem (h ▸ hmem)
  case reserved => simpa [statusesOf_reserved h] using hmem
  all_goals
    rw [h] at hmem
    cases i <;> simp [statusesOf] at hmem ⊢

end Sys2Proof.Proofs
end

section
/-! PROOFS. The accesses on the bus (spec/20_memory.md section 1, spec/70_reset_and_hazards.md section 3): which events
each operation puts on the trace, how many they are, and that every failed one is counted. -/

namespace Sys2Proof.Machine

open Sys2Proof

/-! ## Counting failures -/

theorem countFailures_countFailures (e : BitVec 8) (m n : Nat) :
    countFailures (countFailures e m) n = countFailures e (m + n) := by
  apply BitVec.eq_of_toNat_eq
  simp only [countFailures_toNat]
  omega

theorem failures_append (es fs : List BusEvent) : failures (es ++ fs) = failures es + failures fs :=
  List.countP_append

theorem failures_eventsOf {ws : List RegWrite} {oks : List Bool} (h : oks.length = ws.length) :
    failures (eventsOf ws oks) = oks.count false := by
  induction ws generalizing oks with
  | nil =>
    rw [List.length_eq_zero_iff.1 h]
    rfl
  | cons w ws ih =>
    obtain ⟨ok, oks, rfl⟩ := List.exists_cons_of_length_eq_add_one h
    have htail := ih (Nat.succ_injective h)
    cases ok <;> simp_all [failures, eventsOf, BusEvent.failed]

/-- R38, R11: from `s` to `t` events went on the trace, and each failed one of them was counted. -/
def Counts (s t : State) : Prop :=
  ∃ es, t.trace = s.trace ++ es ∧ t.errCount = countFailures s.errCount (failures es)

theorem Counts.refl (s : State) : Counts s s := ⟨[], by simp, by simp [failures]⟩

theorem Counts.trans {s t u : State} (hst : Counts s t) (htu : Counts t u) : Counts s u := by
  obtain ⟨es, htrace, herr⟩ := hst
  obtain ⟨fs, htrace', herr'⟩ := htu
  refine ⟨es ++ fs, by rw [htrace', htrace, List.append_assoc], ?_⟩
  rw [herr', herr, countFailures_countFailures, failures_append]

theorem access_counts (s : State) {e : BusEvent} (he : e.failed = !s.answer.ok) :
    Counts s (s.access s.answer.ok e) := by
  refine ⟨[e], rfl, ?_⟩
  cases h : s.answer.ok <;> simp_all [failures, satinc8_eq]

theorem writeDyn_counts (k : Nat) (v : RegValue) (s : State) : Counts s (writeDyn k v s) :=
  access_counts { s with dyn := s.dyn.set k v } rfl

theorem readSqBody_counts (s : State) : Counts s (readSqBody s) :=
  access_counts s (e := .read s.cfg.regSq s.answer.value s.answer.ok) rfl

/-! ## Tuning -/

/-- R251: the accesses of a mode switch into the mode that a state is in. -/
def accessBudget (s : State) : Nat :=
  3 + (if s.isTx then s.cfg.txBlock else s.cfg.rxBlock).length + s.cfg.commonBlock.length + s.cfg.nDyn

/-- The events of tuning: failures counted, no read, and not more of them than one mode switch makes. -/
structure TuningEvents (s : State) (es : List BusEvent) (t : State) : Prop where
  trace : t.trace = s.trace ++ es
  errors : t.errCount = countFailures s.errCount (failures es)
  unread : ∀ e ∈ es, e.isRead = false
  accesses : es.countP BusEvent.isAccess ≤ accessBudget t
  others : es.countP (fun e => !e.isAccess) ≤ 2

theorem TuningEvents.nil (s : State) : TuningEvents s [] s :=
  ⟨by simp, by simp [failures], by simp, by simp, by simp⟩

theorem eventsOf_isAccess {ws : List RegWrite} {oks : List Bool} {e : BusEvent} (h : e ∈ eventsOf ws oks) :
    e.isAccess = true ∧ e.isRead = false := by
  simp only [eventsOf, List.mem_iff_getElem, List.getElem_zipWith] at h
  obtain ⟨j, -, rfl⟩ := h
  exact ⟨rfl, rfl⟩

theorem countP_isAccess_eventsOf (ws : List RegWrite) (oks : List Bool) :
    (eventsOf ws oks).countP BusEvent.isAccess ≤ ws.length ∧
      (eventsOf ws oks).countP (fun e => !e.isAccess) = 0 := by
  refine ⟨List.countP_le_length.trans (by simp [eventsOf]), List.countP_eq_zero.2 fun e he => ?_⟩
  simp [(eventsOf_isAccess he).1]

theorem enterWrites_length_le (s : State) (tx : Bool) (p : Plan) : (enterWrites s tx p).length ≤
    3 + (if tx then s.cfg.txBlock else s.cfg.rxBlock).length + s.cfg.commonBlock.length + s.cfg.nDyn := by
  simp only [enterWrites, List.length_append, dynReplay, List.length_zipWith, freqWrites, List.length_cons,
    List.length_nil, Cfg.nDyn]
  omega

theorem enter_events (tx : Bool) (f : Hz) (s : State) : ∃ es, TuningEvents s es (enter tx f s) := by
  rcases enter_cases tx f s with ⟨-, -, hfailed⟩ | ⟨d, oks, -, -, ⟨hlength, -⟩, hentered⟩
  · exact ⟨[], by rw [hfailed]; exact .nil s⟩
  · generalize hws : enterWrites s tx (planFor (lo tx (adj s f)) d) = ws at *
    obtain ⟨haccess, hother⟩ := countP_isAccess_eventsOf ws oks
    refine ⟨[.line (lineLevel s.cfg tx), .settle] ++ eventsOf ws oks, ?_⟩
    rw [hentered]
    refine ⟨rfl, ?_, ?_, ?_, ?_⟩
    · rw [failures_append, failures_eventsOf hlength]
      simp [afterAccesses, countFailures, failures, BusEvent.failed]
    · intro e he
      simp only [List.mem_append, List.mem_cons, List.not_mem_nil, or_false] at he
      obtain (rfl | rfl) | he := he
      · rfl
      · rfl
      · exact (eventsOf_isAccess he).2
    · rw [List.countP_append]
      exact (Nat.zero_add _).le.trans (haccess.trans (hws ▸ enterWrites_length_le s tx _))
    · rw [List.countP_append, hother]
      simp [BusEvent.isAccess]

theorem retune_events (s : State) : ∃ es, TuningEvents s es (retune s) := by
  rcases retune_cases s with ⟨-, -, huntuned⟩ | ⟨f, -, -, htuned⟩
  · exact ⟨[], by rw [huntuned]; exact .nil s⟩
  · rw [htuned]
    exact enter_events s.isTx f s

/-- R202: the count of CHIP_RESET starts from 0. -/
theorem chipResetBody_events (s : State) : ∃ es, TuningEvents (clearErrors s) es (chipResetBody s) := by
  rcases chipResetBody_cases s with ⟨-, hstate⟩ | ⟨f, -, hstate⟩ <;> rw [hstate]
  · exact ⟨[], .nil _⟩
  · exact enter_events false f _

theorem TuningEvents.counts {s t : State} {es : List BusEvent} (h : TuningEvents s es t) : Counts s t :=
  ⟨es, h.trace, h.errors⟩

/-! ## Failures of an operation -/

/-- Each part counts its failures, but for CHIP_RESET's, which clears the count first. -/
theorem part_counts {p : Part} (hp : p ≠ .reset) (s : State) : Counts s (p.run s) := by
  cases p with
  | enter tx f => exact (enter_events tx f s).elim fun _ h => h.counts
  | retune => exact (retune_events s).elim fun _ h => h.counts
  | reset => exact absurd rfl hp
  | readSq => exact readSqBody_counts s
  | agc =>
    change Counts s (agcBody s)
    rcases agcBody_cases s with hstate | hstate <;> rw [hstate]
    · exact .refl s
    · exact writeDyn_counts _ _ s
  | writeDyn k v => exact writeDyn_counts k v s
  | setOffset | detect | smeter | setIndex => exact Counts.refl s

theorem runParts_counts {ps : List Part} (h : .reset ∉ ps) (s : State) : Counts s (runParts ps s) :=
  runParts_rel .refl (fun _ _ _ => .trans) fun _ hp t _ => part_counts (fun heq => h (heq ▸ hp)) t

/-- The state that an operation counts its failures from. -/
def countStart (i : Instr) (s : State) : State :=
  if i = .chipReset ∨ (i = .tick ∧ s.cfg.errThreshold ≤ s.errCount.toNat) then clearErrors s else s

/-- R38: with the part of CHIP_RESET at the head of a program the failures count from 0. -/
theorem runParts_reset_counts {ps : List Part} (h : .reset ∉ ps) (s : State) :
    Counts (clearErrors s) (runParts (.reset :: ps) s) := by
  obtain ⟨es, hreset⟩ := chipResetBody_events s
  exact hreset.counts.trans (runParts_counts h _)

theorem leaves_counts (i : Instr) (s : State) : Counts (countStart i s) (leaves i s) := by
  rw [leaves_eq]
  change Counts _ (runParts (program i s) s)
  by_cases hi : i ∈ [.chipReset, .tick]
  case neg =>
    have hstart : countStart i s = s := if_neg (by simp at hi; simp [hi])
    rw [hstart]
    exact runParts_counts (fun hmem => hi (program_usedBy i s _ hmem)) s
  case pos =>
    simp only [List.mem_cons, List.not_mem_nil, or_false] at hi
    obtain rfl | rfl := hi
    · exact runParts_reset_counts (ps := []) (by simp) s
    · by_cases herr : s.isError = true
      · rw [program, if_pos herr, countStart, if_pos (.inr ⟨rfl, (isError_iff s).1 herr⟩)]
        exact runParts_reset_counts (by simp) s
      · rw [program, if_neg herr, countStart, if_neg (by simpa [isError_iff] using herr)]
        exact runParts_counts (by simp) s

/-! ## The events of each operation -/

/-- The appended events are determined by the two traces. -/
theorem new_eq {s t : State} {new es : List BusEvent} (h : t.trace = s.trace ++ new) (h' : t.trace = s.trace ++ es) :
    new = es :=
  List.append_cancel_left (h.symm.trans h')

/-- R171: AGC makes one write of its register or no access. -/
theorem agcBody_events (s : State) : ∃ es, (agcBody s).trace = s.trace ++ es ∧
    (es = [] ∨ ∃ v ok, es = [.write (dynAddr s.cfg s.cfg.gainK) v ok]) := by
  rcases agcBody_cases s with hstate | hstate <;> rw [hstate]
  · exact ⟨[], by simp, .inl rfl⟩
  · exact ⟨_, rfl, .inr ⟨_, _, rfl⟩⟩

/-- The operations whose accesses are those of one tuning. -/
def TunesOnly (i : Instr) : Prop :=
  (∃ f, i = .enterTx f) ∨ (∃ f, i = .enterRx f) ∨ (∃ v, i = .setOffsetHz v) ∨ (∃ v, i = .setOffsetPpm v) ∨
    i = .chipReset

theorem tunesOnly_events {i : Instr} (s : State) (hi : TunesOnly i) :
    ∃ u es, TuningEvents u es (leaves i s) ∧ u.trace = s.trace := by
  have hport : ∀ {u t : State} {es r}, TuningEvents u es t → TuningEvents u es { t with rsp := r } :=
    fun h => ⟨h.trace, h.errors, h.unread, h.accesses, h.others⟩
  obtain ⟨f, rfl⟩ | ⟨f, rfl⟩ | ⟨v, rfl⟩ | ⟨v, rfl⟩ | rfl := hi
  · obtain ⟨es, h⟩ := enter_events true f s
    exact ⟨s, es, hport h, rfl⟩
  · obtain ⟨es, h⟩ := enter_events false f s
    exact ⟨s, es, hport h, rfl⟩
  · obtain ⟨es, h⟩ := retune_events (setOffset (signedOperand v * nhzPerHz) s)
    exact ⟨_, es, hport h, rfl⟩
  · obtain hlast | ⟨g, hlast⟩ := Option.eq_none_or_eq_some s.lastUserFreq
    · rw [leaves_setOffsetPpm_of_none v hlast]
      exact ⟨s, [], hport (.nil s), rfl⟩
    · rw [leaves_setOffsetPpm_of_some v hlast]
      obtain ⟨es, h⟩ := retune_events (setOffset (g.toNat * v.toInt) s)
      exact ⟨_, es, hport h, rfl⟩
  · obtain ⟨es, h⟩ := chipResetBody_events s
    exact ⟨_, es, hport h, rfl⟩

/-- R203: AGC is the last part of TICK that makes an access. -/
theorem tick_trace (s : State) :
    (leaves .tick s).trace = (agcBody (detectBody (readSqBody (tickReset s)))).trace := by
  rw [leaves, finish_trace, tickBody, smeterBody_trace]

/-- R203: CHIP_RESET is the only part of TICK that can change the mode. -/
theorem tick_isTx (s : State) : (leaves .tick s).isTx = (tickReset s).isTx := by
  have hagc : (agcBody (detectBody (readSqBody (tickReset s)))).isTx = (detectBody (readSqBody (tickReset s))).isTx :=
    (part_frame .agc _).isTx nofun nofun
  rw [leaves, finish_isTx, tickBody, smeterBody_isTx, hagc, detectBody_isTx, readSqBody_isTx]

/-- R203: the events of TICK are those of its CHIP_RESET part, one read, and those of AGC. -/
theorem tick_events (s : State) : ∃ es v ok fs,
    (leaves .tick s).trace = s.trace ++ (es ++ .read s.cfg.regSq v ok :: fs) ∧
    (∃ u, TuningEvents u es (tickReset s)) ∧ (¬s.cfg.errThreshold ≤ s.errCount.toNat → es = []) ∧
    (fs = [] ∨ ∃ v ok, fs = [.write (dynAddr s.cfg s.cfg.gainK) v ok]) := by
  have hreset : ∃ u es, TuningEvents u es (tickReset s) ∧ u.trace = s.trace ∧
      (¬s.cfg.errThreshold ≤ s.errCount.toNat → es = []) := by
    by_cases herr : s.isError = true
    · obtain ⟨es, h⟩ := chipResetBody_events s
      refine ⟨clearErrors s, es, ?_, rfl, fun hn => absurd ((isError_iff s).1 herr) hn⟩
      rwa [tickReset, if_pos herr]
    · rw [(tickReset_of_not_isError herr).1]
      exact ⟨s, [], .nil s, rfl, fun _ => rfl⟩
  obtain ⟨u, es, hes, hu, hnone⟩ := hreset
  obtain ⟨fs, hfs, hagc⟩ := agcBody_events (detectBody (readSqBody (tickReset s)))
  have hcfg := (tickReset_inputsKept s).2
  refine ⟨es, (tickReset s).answer.value, (tickReset s).answer.ok, fs, ?_, ⟨u, hes⟩, hnone, ?_⟩
  · rw [tick_trace, hfs, detectBody_trace, readSqBody_trace, hes.trace, hu, hcfg]
    simp
  · simpa [hcfg] using hagc

/-- The other operations make at most one access, and drive no line. -/
theorem leaves_events_length_le_one (i : Instr) (s : State) (hi : ¬TunesOnly i) (htick : i ≠ .tick) :
    ∃ es, (leaves i s).trace = s.trace ++ es ∧ es.length ≤ 1 ∧ (i ≠ .readSq → ∀ e ∈ es, e.isRead = false) := by
  cases i with
  | enterTx | enterRx | setOffsetHz | setOffsetPpm | chipReset => simp [TunesOnly] at hi
  | tick => exact absurd rfl htick
  | readSq => exact ⟨_, readSqBody_trace s, le_rfl, by simp⟩
  | agc =>
    obtain ⟨es, hes, rfl | ⟨v, ok, rfl⟩⟩ := agcBody_events s
    · exact ⟨[], hes, by simp, by simp⟩
    · exact ⟨_, hes, le_rfl, by simp [BusEvent.isRead]⟩
  | setSql | setGain => exact ⟨_, writeDyn_trace _ _ _, le_rfl, by simp [BusEvent.isRead]⟩
  | dynWrite k m v =>
    by_cases hk : s.cfg.nDyn ≤ k.toNat
    · refine ⟨[], ?_, by simp, by simp⟩
      rw [leaves, afterDynWrite, if_pos hk, List.append_nil]
      rfl
    · rw [leaves, afterDynWrite, if_neg hk]
      exact ⟨_, writeDyn_trace _ _ _, le_rfl, by simp [BusEvent.isRead]⟩
  | _ => exact ⟨[], (List.append_nil _).symm, by simp, by simp⟩

/-- The operations of the signal path that write a register write that of their field, once (R173, R174). -/
theorem setSql_trace (l : BitVec 8) (s : State) : ∃ v ok,
    (leaves (.setSql l) s).trace = s.trace ++ [.write (dynAddr s.cfg s.cfg.sqlK) v ok] :=
  ⟨_, _, rfl⟩

theorem setGain_trace (l : BitVec 8) (s : State) : ∃ v ok,
    (leaves (.setGain l) s).trace = s.trace ++ [.write (dynAddr s.cfg s.cfg.gainK) v ok] :=
  ⟨_, _, rfl⟩

/-- R175. -/
theorem dynWrite_trace {k : BitVec 8} {s : State} (m x : RegValue) (hk : k.toNat < s.cfg.nDyn) : ∃ v ok,
    (leaves (.dynWrite k m x) s).trace = s.trace ++ [.write (dynAddr s.cfg k.toNat) v ok] := by
  rw [leaves, afterDynWrite, if_neg (by omega)]
  exact ⟨_, _, rfl⟩

/-- The operations that make no access. -/
theorem leaves_trace_of_silent {i : Instr} (s : State) (hi : (∃ f, i = .classify f) ∨ (∃ f r, i = .synth f r) ∨
    (∃ f x, i = .quantize f x) ∨ i = .detect ∨ i = .smeter ∨ i = .isError) :
    (leaves i s).trace = s.trace ++ [] := by
  rw [List.append_nil]
  obtain ⟨f, rfl⟩ | ⟨f, r, rfl⟩ | ⟨f, x, rfl⟩ | rfl | rfl | rfl := hi <;> rfl

/-- Every operation appends to the trace; only READ_SQ and TICK read. -/
theorem leaves_events (i : Instr) (s : State) : ∃ new, (leaves i s).trace = s.trace ++ new ∧
    (i ∉ [.readSq, .tick] → ∀ e ∈ new, e.isRead = false) := by
  by_cases htick : i = .tick
  · obtain ⟨es, v, ok, fs, htrace, -⟩ := tick_events s
    exact ⟨_, htick ▸ htrace, by simp [htick]⟩
  · by_cases htune : TunesOnly i
    · obtain ⟨u, es, hes, hu⟩ := tunesOnly_events s htune
      exact ⟨es, hu ▸ hes.trace, fun _ => hes.unread⟩
    · obtain ⟨es, htrace, -, hunread⟩ := leaves_events_length_le_one i s htune htick
      exact ⟨es, htrace, fun hi => hunread (by simp at hi; exact hi.1)⟩

/-- R203: of the events of TICK one is a read. -/
theorem tick_reads (s : State) : ∃ new v ok, (leaves .tick s).trace = s.trace ++ new ∧
    new.filter BusEvent.isRead = [.read s.cfg.regSq v ok] := by
  obtain ⟨es, v, ok, fs, htrace, ⟨u, hes⟩, -, hfs⟩ := tick_events s
  refine ⟨_, v, ok, htrace, ?_⟩
  have hbefore : es.filter BusEvent.isRead = [] := by simpa using hes.unread
  have hafter : fs.filter BusEvent.isRead = [] := by
    obtain rfl | ⟨v, ok, rfl⟩ := hfs <;> rfl
  rw [List.filter_append, List.filter_cons_of_pos rfl, hbefore, hafter, List.nil_append]

/-- R251, and R203 for the two accesses more of a TICK that resets. -/
theorem leaves_events_bound (i : Instr) (s : State) : ∃ new, (leaves i s).trace = s.trace ++ new ∧
    new.countP BusEvent.isAccess ≤
      accessBudget (leaves i s) + (if i = .tick ∧ s.cfg.errThreshold ≤ s.errCount.toNat then 2 else 0) ∧
    new.countP (fun e => !e.isAccess) ≤ 2 := by
  have hbudget (t : State) : 3 ≤ accessBudget t := by unfold accessBudget; omega
  by_cases htick : i = .tick
  · subst htick
    obtain ⟨es, v, ok, fs, htrace, ⟨u, hes⟩, hnone, hfs⟩ := tick_events s
    have htail : (BusEvent.read s.cfg.regSq v ok :: fs).countP BusEvent.isAccess ≤ 2 ∧
        (BusEvent.read s.cfg.regSq v ok :: fs).countP (fun e => !e.isAccess) = 0 := by
      obtain rfl | ⟨v, ok, rfl⟩ := hfs <;> exact ⟨List.countP_le_length.trans (by simp), rfl⟩
    have hsame : accessBudget (leaves .tick s) = accessBudget (tickReset s) := by
      rw [accessBudget, accessBudget, tick_isTx, (leaves_responded .tick s).2.2, (tickReset_inputsKept s).2]
    refine ⟨_, htrace, ?_, ?_⟩
    · rw [List.countP_append, hsame]
      by_cases herr : s.cfg.errThreshold ≤ s.errCount.toNat
      · have := hes.accesses
        simp only [herr, and_self, if_true]
        omega
      · have := hbudget (tickReset s)
        simp only [hnone herr, List.countP_nil]
        omega
    · rw [List.countP_append, htail.2]
      exact hes.others
  · by_cases htune : TunesOnly i
    · obtain ⟨u, es, hes, hu⟩ := tunesOnly_events s htune
      exact ⟨es, hu ▸ hes.trace, hes.accesses.trans (Nat.le_add_right _ _), hes.others⟩
    · obtain ⟨es, htrace, hlength, -⟩ := leaves_events_length_le_one i s htune htick
      have haccess := es.countP_le_length (p := BusEvent.isAccess)
      have hother := es.countP_le_length (p := fun e => !e.isAccess)
      have := hbudget (leaves i s)
      exact ⟨es, htrace, by omega, by omega⟩

end Sys2Proof.Machine

namespace Sys2Proof.Proofs

open Sys2Proof Sys2Proof.Machine

/-- Settles O15. -/
theorem errCountCountsFailures : Obligations.ErrCountCountsFailures := by
  intro i s t ht
  obtain rfl := leaves_of_exec i s t ht
  obtain ⟨new, htrace, herr⟩ := leaves_counts i s
  rw [herr, countFailures_toNat, Nat.min_comm]
  unfold countStart at htrace ⊢
  split_ifs at htrace ⊢ <;> exact ⟨new, htrace, rfl⟩

/-- Settles O16. The appended events are the same in every clause, as the two traces determine them. -/
theorem busAccessesOfEachOperation : Obligations.BusAccessesOfEachOperation := by
  intro i s t ht
  obtain rfl := leaves_of_exec i s t ht
  obtain ⟨new, hnew, hunread⟩ := leaves_events i s
  refine ⟨new, hnew, hunread, ?readSq, ?tick, ?setSql, ?setGain, ?dynWrite, ?agc, fun hi => ?silent⟩
  case readSq =>
    rintro rfl
    exact ⟨_, _, new_eq hnew (readSqBody_trace s)⟩
  case tick =>
    rintro rfl
    obtain ⟨es, v, ok, htrace, hfilter⟩ := tick_reads s
    exact ⟨v, ok, new_eq hnew htrace ▸ hfilter⟩
  case setSql =>
    rintro l rfl
    obtain ⟨v, ok, htrace⟩ := setSql_trace l s
    exact ⟨v, ok, new_eq hnew htrace⟩
  case setGain =>
    rintro l rfl
    obtain ⟨v, ok, htrace⟩ := setGain_trace l s
    exact ⟨v, ok, new_eq hnew htrace⟩
  case dynWrite =>
    rintro k m x rfl hk
    obtain ⟨v, ok, htrace⟩ := dynWrite_trace m x hk
    exact ⟨v, ok, new_eq hnew htrace⟩
  case agc =>
    rintro rfl
    obtain ⟨es, htrace, hes⟩ := agcBody_events s
    exact new_eq hnew htrace ▸ hes
  case silent => exact new_eq hnew (leaves_trace_of_silent s hi)

/-- Settles O21. -/
theorem boundedBusEvents : Obligations.BoundedBusEvents := by
  intro i s t ht
  obtain rfl := leaves_of_exec i s t ht
  have hbound := leaves_events_bound i s
  rwa [accessBudget, (leaves_responded i s).2.2] at hbound

end Sys2Proof.Proofs
end

section
/-! PROOFS. Two runs side by side. Nothing reads the trace (spec/10_state.md section 6); the transport's answers reach
only the error record and what READ_SQ samples (spec/20_memory.md section 5); SET_OFFSET_PPM run twice does the same
(spec/41_tuning.md section 3). -/

namespace Sys2Proof.Machine

open Sys2Proof

/-! ## The trace -/

/-- A procedure appends the same events to every trace, and does the same else. -/
def AppendsOnly (run : State → State) (s : State) : Prop :=
  ∃ new, ∀ tr, run { s with trace := tr } = { run s with trace := tr ++ new }

theorem AppendsOnly.trace {run : State → State} {s : State} (h : AppendsOnly run s) : ∃ new,
    (run s).trace = s.trace ++ new ∧ ∀ tr, run { s with trace := tr } = { run s with trace := tr ++ new } := by
  obtain ⟨new, hnew⟩ := h
  exact ⟨new, congrArg State.trace (hnew s.trace), hnew⟩

theorem AppendsOnly.comp {run run' : State → State} {s : State} (h : AppendsOnly run s)
    (h' : AppendsOnly run' (run s)) : AppendsOnly (run' ∘ run) s := by
  obtain ⟨new, hnew⟩ := h
  obtain ⟨new', hnew'⟩ := h'
  refine ⟨new ++ new', fun tr => ?_⟩
  rw [Function.comp_apply, hnew, ← List.append_assoc]
  exact hnew' _

theorem AppendsOnly.of_silent {run : State → State} {s : State}
    (h : ∀ tr, run { s with trace := tr } = { run s with trace := tr }) : AppendsOnly run s :=
  ⟨[], fun tr => by rw [List.append_nil, h]⟩

/-- R133: which sequence goes out does not depend on the trace. -/
theorem enter_appendsOnly (tx : Bool) (f : Hz) (s : State) : AppendsOnly (enter tx f) s := by
  have hplan (tr : List BusEvent) : plan { s with trace := tr } tx f = plan s tx f := rfl
  cases h : plan s tx f with
  | none =>
    refine .of_silent fun tr => ?_
    rw [enter, enter, hplan, h]
    rfl
  | some p =>
    refine ⟨[.line (lineLevel s.cfg tx), .settle] ++ writeEvents (enterWrites s tx p)
      (oksFrom (enterWrites s tx p).length s.answers s.draws), fun tr => ?_⟩
    rw [enter, enter, hplan, h, Option.elim_some, Option.elim_some, enterPlanned, enterPlanned, writeAll_eq,
      writeAll_eq]
    simp [enterWrites, dynReplay, recordTuned, List.append_assoc]

theorem retune_appendsOnly (s : State) : AppendsOnly retune s := by
  have hactive (tr : List BusEvent) : State.activeFreq { s with trace := tr } = s.activeFreq := rfl
  cases h : s.activeFreq with
  | none =>
    refine .of_silent fun tr => ?_
    rw [retune, retune, hactive, h]
    rfl
  | some f =>
    obtain ⟨new, hnew⟩ := enter_appendsOnly s.isTx f s
    refine ⟨new, fun tr => ?_⟩
    rw [retune, retune, hactive, h]
    exact hnew tr

theorem chipResetBody_appendsOnly (s : State) : AppendsOnly chipResetBody s := by
  cases h : s.rxFreq with
  | none =>
    refine .of_silent fun tr => ?_
    rw [(chipReset_of_none h).1, (chipReset_of_none (s := { s with trace := tr }) h).1]
    rfl
  | some f =>
    obtain ⟨new, hnew⟩ := enter_appendsOnly false f (clearErrors s)
    refine ⟨new, fun tr => ?_⟩
    rw [(chipReset_of_some h).1, (chipReset_of_some (s := { s with trace := tr }) h).1]
    exact hnew tr

theorem writeDyn_appendsOnly (k : Nat) (v : RegValue) (s : State) : AppendsOnly (writeDyn k v) s :=
  ⟨[.write (dynAddr s.cfg k) v s.answer.ok], fun _ => rfl⟩

theorem agcBody_appendsOnly (s : State) : AppendsOnly agcBody s := by
  by_cases h : agcGain s = s.gain
  · refine .of_silent fun tr => ?_
    have h' : agcGain { s with trace := tr } = State.gain { s with trace := tr } := h
    rw [agcBody, agcBody, if_pos h, if_pos h']
  · obtain ⟨new, hnew⟩ := writeDyn_appendsOnly s.cfg.gainK
      (setField (s.dynAt s.cfg.gainK) s.cfg.gainLsb 3 (agcGain s).toNat) s
    refine ⟨new, fun tr => ?_⟩
    have h' : ¬agcGain { s with trace := tr } = State.gain { s with trace := tr } := h
    rw [agcBody, agcBody, if_neg h, if_neg h']
    exact hnew tr

theorem part_appendsOnly (p : Part) (s : State) : AppendsOnly p.run s := by
  cases p with
  | enter tx f => exact enter_appendsOnly tx f s
  | retune => exact retune_appendsOnly s
  | reset => exact chipResetBody_appendsOnly s
  | readSq => exact ⟨[.read s.cfg.regSq s.answer.value s.answer.ok], fun _ => rfl⟩
  | agc => exact agcBody_appendsOnly s
  | writeDyn k v => exact writeDyn_appendsOnly k v s
  | setOffset | detect | smeter | setIndex => exact .of_silent fun _ => rfl

theorem runParts_appendsOnly (ps : List Part) (s : State) : AppendsOnly (runParts ps) s := by
  induction ps generalizing s with
  | nil => exact .of_silent fun _ => rfl
  | cons p ps ih => exact (part_appendsOnly p s).comp (ih _)

/-- Which parts an operation runs does not depend on the trace. -/
theorem program_trace (i : Instr) (s : State) (tr : List BusEvent) :
    program i { s with trace := tr } = program i s := by
  cases i <;> rfl

theorem tickBody_appendsOnly (s : State) : AppendsOnly tickBody s := by
  have hbody (s : State) : tickBody s = runParts (program .tick s) s := by
    rw [tickBody, tickReset, program]
    split <;> rfl
  obtain ⟨new, hnew⟩ := runParts_appendsOnly (program .tick s) s
  refine ⟨new, fun tr => ?_⟩
  rw [hbody, hbody, program_trace]
  exact hnew tr

/-- Nor does the response. -/
theorem leaves_rsp_trace (i : Instr) (s : State) (tr : List BusEvent) :
    (leaves i { s with trace := tr }).rsp = (leaves i s).rsp := by
  cases i with
  | setOffsetPpm v =>
    obtain hlast | ⟨g, hlast⟩ := Option.eq_none_or_eq_some s.lastUserFreq
    · rw [leaves_setOffsetPpm_of_none v hlast, leaves_setOffsetPpm_of_none v (s := { s with trace := tr }) hlast]
    · rw [leaves_setOffsetPpm_of_some v hlast, leaves_setOffsetPpm_of_some v (s := { s with trace := tr }) hlast]
      rfl
  | dynWrite k m v =>
    simp only [leaves, afterDynWrite]
    split <;> rfl
  | tick =>
    obtain ⟨new, hnew⟩ := tickBody_appendsOnly s
    rw [leaves, leaves, hnew]
    rfl
  | _ => rfl

theorem leaves_appendsOnly (i : Instr) (s : State) : AppendsOnly (leaves i) s := by
  obtain ⟨new, hnew⟩ := runParts_appendsOnly (program i s) s
  refine ⟨new, fun tr => ?_⟩
  rw [leaves_eq i { s with trace := tr }, leaves_eq i s, program_trace, leaves_rsp_trace, hnew]

/-! ## The answers -/

/-- Two states that agree in all but the error record, the transport's answers and the response port. -/
def Alike (s u : State) : Prop :=
  ∃ e tr r as d, u = { s with errCount := e, trace := tr, rsp := r, answers := as, draws := d }

/-- Between two pairs of states the same was asked of the bus. -/
def SameRequests (s s' u u' : State) : Prop :=
  ∃ es fs, s'.trace = s.trace ++ es ∧ u'.trace = u.trace ++ fs ∧ es.map BusEvent.request = fs.map BusEvent.request

/-- From states that are alike a procedure gives states that are alike, and asks the same of the bus. -/
def RunsAlike (run : State → State) : Prop :=
  ∀ s u, Alike s u → Alike (run s) (run u) ∧ SameRequests s (run s) u (run u)

theorem RunsAlike.comp {run run' : State → State} (h : RunsAlike run) (h' : RunsAlike run') :
    RunsAlike (run' ∘ run) := by
  intro s u hsu
  obtain ⟨halike, es, fs, hes, hfs, hreq⟩ := h s u hsu
  obtain ⟨halike', es', fs', hes', hfs', hreq'⟩ := h' _ _ halike
  refine ⟨halike', es ++ es', fs ++ fs', ?_, ?_, by rw [List.map_append, List.map_append, hreq, hreq']⟩
  · rw [Function.comp_apply, hes', hes, List.append_assoc]
  · rw [Function.comp_apply, hfs', hfs, List.append_assoc]

theorem RunsAlike.id : RunsAlike id :=
  fun _ _ h => ⟨h, [], [], (List.append_nil _).symm, (List.append_nil _).symm, rfl⟩

/-- A procedure that makes no event and whose result is alike runs alike. -/
theorem RunsAlike.of_silent {run : State → State} (htrace : ∀ s, (run s).trace = s.trace)
    (h : ∀ s u, Alike s u → Alike (run s) (run u)) : RunsAlike run :=
  fun s u hsu => ⟨h s u hsu, [], [], by rw [htrace, List.append_nil], by rw [htrace, List.append_nil], rfl⟩

theorem memWrite_runsAlike (a : RegAddr) (v : RegValue) : RunsAlike (memWrite a v) := by
  rintro s _ ⟨e, tr, r, as, d, rfl⟩
  exact ⟨⟨_, _, _, _, _, rfl⟩, _, _, rfl, rfl, rfl⟩

theorem writeAll_runsAlike (ws : List RegWrite) : RunsAlike (writeAll ws) := by
  induction ws with
  | nil => exact .id
  | cons w ws ih => exact (memWrite_runsAlike w.addr w.value).comp ih

theorem setLine_settle_runsAlike (level : Bool) : RunsAlike fun s => settle (setLine level s) := by
  rintro s _ ⟨e, tr, r, as, d, rfl⟩
  exact ⟨⟨_, _, _, _, _, rfl⟩, [.line level, .settle], [.line level, .settle], by simp, by simp, rfl⟩

theorem recordTuned_runsAlike (tx : Bool) (f : Hz) : RunsAlike (recordTuned tx f) := by
  refine .of_silent (fun _ => rfl) ?_
  rintro s _ ⟨e, tr, r, as, d, rfl⟩
  exact ⟨_, _, _, _, _, rfl⟩

theorem enter_runsAlike (tx : Bool) (f : Hz) : RunsAlike (enter tx f) := by
  rintro s _ ⟨e, tr, r, as, d, rfl⟩
  have hplan : plan { s with errCount := e, trace := tr, rsp := r, answers := as, draws := d } tx f = plan s tx f := rfl
  rw [enter, enter, hplan]
  cases plan s tx f with
  | none => exact RunsAlike.id _ _ ⟨_, _, _, _, _, rfl⟩
  | some p =>
    exact ((setLine_settle_runsAlike (lineLevel s.cfg tx)).comp ((writeAll_runsAlike (enterWrites s tx p)).comp
      (recordTuned_runsAlike tx f))) _ _ ⟨_, _, _, _, _, rfl⟩

theorem retune_runsAlike : RunsAlike retune := by
  rintro s _ ⟨e, tr, r, as, d, rfl⟩
  have hactive : State.activeFreq { s with errCount := e, trace := tr, rsp := r, answers := as, draws := d } =
      s.activeFreq := rfl
  rw [retune, retune, hactive]
  cases s.activeFreq with
  | none => exact RunsAlike.id _ _ ⟨_, _, _, _, _, rfl⟩
  | some f => exact enter_runsAlike s.isTx f _ _ ⟨_, _, _, _, _, rfl⟩

theorem chipResetBody_runsAlike : RunsAlike chipResetBody := by
  intro s u hsu
  have hclear : Alike (clearErrors s) (clearErrors u) := by
    obtain ⟨e, tr, r, as, d, rfl⟩ := hsu
    exact ⟨_, _, _, _, _, rfl⟩
  have hrx : u.rxFreq = s.rxFreq := by
    obtain ⟨e, tr, r, as, d, rfl⟩ := hsu
    rfl
  cases h : s.rxFreq with
  | none =>
    rw [(chipReset_of_none h).1, (chipReset_of_none (hrx.trans h)).1]
    exact RunsAlike.id _ _ hclear
  | some f =>
    rw [(chipReset_of_some h).1, (chipReset_of_some (hrx.trans h)).1]
    exact enter_runsAlike false f _ _ hclear

theorem writeDyn_runsAlike (k : Nat) (v : RegValue) : RunsAlike (writeDyn k v) := by
  rintro s _ ⟨e, tr, r, as, d, rfl⟩
  exact memWrite_runsAlike (dynAddr s.cfg k) v _ _ ⟨_, _, _, _, _, rfl⟩

theorem agcBody_runsAlike : RunsAlike agcBody := by
  intro s u hsu
  have hviews : agcGain u = agcGain s ∧ u.gain = s.gain ∧ u.cfg = s.cfg ∧
      u.dynAt s.cfg.gainK = s.dynAt s.cfg.gainK := by
    obtain ⟨e, tr, r, as, d, rfl⟩ := hsu
    exact ⟨rfl, rfl, rfl, rfl⟩
  obtain ⟨hlevel, hgain, hcfg, hdyn⟩ := hviews
  rw [agcBody, agcBody, hlevel, hgain, hcfg, writeField, writeField, hdyn]
  by_cases h : agcGain s = s.gain
  · rw [if_pos h, if_pos h]
    exact RunsAlike.id _ _ hsu
  · rw [if_neg h, if_neg h]
    exact writeDyn_runsAlike _ _ _ _ hsu

/-- Only READ_SQ takes more than success or failure from an answer. -/
theorem part_runsAlike {p : Part} (hp : p ≠ .readSq) : RunsAlike p.run := by
  cases p with
  | enter tx f => exact enter_runsAlike tx f
  | retune => exact retune_runsAlike
  | reset => exact chipResetBody_runsAlike
  | readSq => exact absurd rfl hp
  | agc => exact agcBody_runsAlike
  | writeDyn k v => exact writeDyn_runsAlike k v
  | setOffset | detect | smeter | setIndex =>
    refine .of_silent (fun _ => rfl) ?_
    rintro s _ ⟨e, tr, r, as, d, rfl⟩
    exact ⟨_, _, _, _, _, rfl⟩

theorem runParts_runsAlike {ps : List Part} (h : .readSq ∉ ps) : RunsAlike (runParts ps) := by
  induction ps with
  | nil => exact .id
  | cons p ps ih =>
    rw [List.mem_cons, not_or] at h
    obtain ⟨hhead, htail⟩ := h
    exact (part_runsAlike (Ne.symm hhead)).comp (ih htail)

/-- Which parts an operation runs does not depend on the answers. -/
theorem program_answers (i : Instr) (s : State) (as : List Answer) (d : Nat) :
    program i { s with answers := as, draws := d } = program i s := by
  cases i <;> rfl

/-- Nor does the response, but for what READ_SQ samples. -/
theorem leaves_rsp_answers {i : Instr} (hi : i ∉ [.readSq, .tick]) (s : State) (as : List Answer) (d : Nat) :
    (leaves i { s with answers := as, draws := d }).rsp = (leaves i s).rsp := by
  cases i with
  | readSq | tick => simp at hi
  | setOffsetPpm v =>
    obtain hlast | ⟨g, hlast⟩ := Option.eq_none_or_eq_some s.lastUserFreq
    · rw [leaves_setOffsetPpm_of_none v hlast,
        leaves_setOffsetPpm_of_none v (s := { s with answers := as, draws := d }) hlast]
    · rw [leaves_setOffsetPpm_of_some v hlast,
        leaves_setOffsetPpm_of_some v (s := { s with answers := as, draws := d }) hlast]
      rfl
  | dynWrite k m v =>
    simp only [leaves, afterDynWrite]
    split <;> rfl
  | _ => rfl

/-- R63, R221: a status is settled before the first access. -/
theorem leaves_status_answers (i : Instr) (s : State) (as : List Answer) (d : Nat) :
    (leaves i { s with answers := as, draws := d }).rsp.map Response.status =
      (leaves i s).rsp.map Response.status := by
  by_cases hi : i ∈ [.readSq, .tick]
  · simp only [List.mem_cons, List.not_mem_nil, or_false] at hi
    obtain rfl | rfl := hi <;> rfl
  · rw [leaves_rsp_answers hi]

/-! ## SET_OFFSET_PPM twice -/

/-- R133, R135: in a good state a re-tune changes nothing but the error record, the trace and the answers. -/
theorem retune_alike {s : State} (h : s.Inv) : Alike s (retune s) := by
  have hframe := retune_tuningFrame s
  obtain ⟨htx, htxFreq, hrxFreq⟩ := retune_mode s
  obtain ⟨hline, hlast⟩ := retune_line_last h
  obtain ⟨hcmds, hcfg⟩ := retune_inputsKept s
  refine ⟨(retune s).errCount, (retune s).trace, (retune s).rsp, (retune s).answers, (retune s).draws, ?_⟩
  rw [← hcfg, ← htx, ← hline, ← htxFreq, ← hrxFreq, ← hlast, ← hcmds, ← hframe.offset, ← hframe.dyn,
    ← hframe.sqlIndex, ← hframe.sample.1, ← hframe.sample.2, ← hframe.detector.1, ← hframe.detector.2, ← hframe.smeter]

/-- Setting the same offset after a re-tune gives a state alike to the one the re-tune started from. -/
theorem setOffset_retune_alike (v : Int) {s : State} (h : s.Inv) :
    Alike (setOffset v s) (setOffset v (offsetAndRetune v s)) := by
  obtain ⟨e, tr, r, as, d, hretune⟩ := retune_alike (setOffset_inv v h)
  rw [offsetAndRetune, hretune]
  exact ⟨_, _, _, _, _, rfl⟩

theorem retuneStatus_alike {s u : State} (h : Alike s u) : retuneStatus u = retuneStatus s := by
  obtain ⟨e, tr, r, as, d, rfl⟩ := h
  rfl

/-- R141: the second of two equal offset operations starts from a state alike to that of the first. -/
theorem offsetAndRetune_twice (v : Int) {s : State} (h : s.Inv) :
    (offsetAndRetune v (offsetAndRetune v s)).offset = (offsetAndRetune v s).offset ∧
    (offsetAndRetune v (offsetAndRetune v s)).rsp = (offsetAndRetune v s).rsp ∧
    SameRequests s (offsetAndRetune v s) (offsetAndRetune v s) (offsetAndRetune v (offsetAndRetune v s)) := by
  have halike := setOffset_retune_alike v h
  obtain ⟨-, hrequests⟩ := retune_runsAlike _ _ halike
  have hoffset (s : State) : (offsetAndRetune v s).offset = (setOffset v s).offset :=
    (retune_tuningFrame (setOffset v s)).offset
  have hrsp (s : State) : (offsetAndRetune v s).rsp =
      some ⟨retuneStatus (setOffset v s), BitVec.ofInt 64 (clamp v (-offsetMaxNHz) offsetMaxNHz), 0⟩ := rfl
  refine ⟨?_, ?_, hrequests⟩
  · rw [hoffset, hoffset, setOffset_offset, setOffset_offset]
  · rw [hrsp, hrsp, retuneStatus_alike halike]

theorem offsetAndRetune_lastUserFreq (v : Int) {s : State} (h : s.Inv) :
    (offsetAndRetune v s).lastUserFreq = s.lastUserFreq :=
  (retune_line_last (setOffset_inv v h)).2

end Sys2Proof.Machine

namespace Sys2Proof.Proofs

open Sys2Proof Sys2Proof.Machine

/-- Settles O14. -/
theorem traceIsAppendOnly : Obligations.TraceIsAppendOnly := by
  intro i s t ht
  obtain rfl := leaves_of_exec i s t ht
  obtain ⟨new, htrace, hblind⟩ := (leaves_appendsOnly i s).trace
  exact ⟨new, htrace, fun tr => by rw [exec_eq_leaves, hblind]⟩

/-- Settles O18: both runs have the same program and the same response. -/
theorem answersReachOnlyErrorsAndTrace : Obligations.AnswersReachOnlyErrorsAndTrace := by
  intro i s t u as d ht hu
  obtain rfl := leaves_of_exec i _ t ht
  obtain rfl := leaves_of_exec i _ u hu
  refine ⟨leaves_status_answers i s as d, fun hi => ?_⟩
  have hsilent : Part.readSq ∉ program i s := fun hmem => hi (program_usedBy i s _ hmem)
  obtain ⟨⟨e, tr, r, as', d', hstate⟩, es, fs, hes, hfs, hreq⟩ :=
    runParts_runsAlike hsilent s { s with answers := as, draws := d } ⟨_, _, _, _, _, rfl⟩
  have hrsp := leaves_rsp_answers hi s as d
  rw [leaves_eq i { s with answers := as, draws := d }, leaves_eq i s, program_answers, hrsp]
  refine ⟨?_, ?_⟩
  · rw [hstate]
  · simp only [hes, hfs, List.map_append, hreq]

/-- Settles O34. -/
theorem ppmTwiceIsTheSame : Obligations.PpmTwiceIsTheSame := by
  intro s t u v hinv ht hu
  obtain hlast | ⟨g, hlast⟩ := Option.eq_none_or_eq_some s.lastUserFreq
  · cases (exec_setOffsetPpm_of_none v hlast).symm.trans ht
    cases (exec_setOffsetPpm_of_none v (s := { s with rsp := some ⟨.noFreq, 0, 0⟩ }) hlast).symm.trans hu
    exact ⟨rfl, rfl, [], [], (List.append_nil _).symm, (List.append_nil _).symm, rfl⟩
  · cases (exec_setOffsetPpm_of_some v hlast).symm.trans ht
    cases (exec_setOffsetPpm_of_some v ((offsetAndRetune_lastUserFreq _ hinv).trans hlast)).symm.trans hu
    exact offsetAndRetune_twice _ hinv

end Sys2Proof.Proofs
end

section
/-! PROOFS. The chip's registers and the state (spec/41_tuning.md, spec/20_memory.md section 5): the last writes of the
frequency registers are those of the tuning in force, and the last write of a dynamic register is its cache entry. -/

namespace Sys2Proof.Machine

open Sys2Proof

/-! ## Writes that spare the frequency registers -/

theorem NoFreqWrite.append {c : Cfg} {es fs : List BusEvent} (hes : NoFreqWrite c es) (hfs : NoFreqWrite c fs) :
    NoFreqWrite c (es ++ fs) :=
  List.forall_mem_append.2 ⟨hes, hfs⟩

theorem noFreqWrite_nil (c : Cfg) : NoFreqWrite c [] := fun _ h => nomatch h

theorem noFreqWrite_write {c : Cfg} {a : RegAddr} (h : a ∉ c.freqAddrs) (v : RegValue) (ok : Bool) :
    NoFreqWrite c [.write a v ok] := by
  intro e he b hb
  rw [List.mem_singleton.1 he]
  refine if_neg fun hab => h ?_
  rwa [hab]

theorem noFreqWrite_eventsOf {c : Cfg} {ws : List RegWrite} (h : ∀ w ∈ ws, w.addr ∉ c.freqAddrs) (oks : List Bool) :
    NoFreqWrite c (eventsOf ws oks) := by
  intro e he
  simp only [eventsOf, List.mem_iff_getElem, List.getElem_zipWith] at he
  obtain ⟨j, hj, rfl⟩ := he
  exact noFreqWrite_write (h _ (List.getElem_mem _)) _ _ _ (List.mem_singleton_self _)

/-- R56: a dynamic register is no frequency register. -/
theorem dynAddr_not_freq {c : Cfg} (hwf : c.wf = true) {k : Nat} (hk : k < c.nDyn) : dynAddr c k ∉ c.freqAddrs := by
  obtain ⟨d, hd, haddr⟩ := c.dynAddr_of_lt k hk
  rw [haddr]
  exact c.wf_dynNotFreq hwf d hd

theorem dynReplay_addr {s : State} {w : RegWrite} (h : w ∈ dynReplay s) : ∃ d ∈ s.cfg.dynRegs, w.addr = d.addr := by
  simp only [dynReplay, List.mem_iff_getElem, List.getElem_zipWith] at h
  obtain ⟨j, hj, rfl⟩ := h
  exact ⟨_, List.getElem_mem _, rfl⟩

/-! ## Staying tuned -/

/-- No frequency register was written, and what the registers hold the plan of is as it was. -/
def StaysTuned (s t : State) : Prop :=
  ∃ es, t.trace = s.trace ++ es ∧ NoFreqWrite s.cfg es ∧ t.isTx = s.isTx ∧ t.lastUserFreq = s.lastUserFreq ∧
    t.offset = s.offset ∧ t.cfg = s.cfg

theorem StaysTuned.refl (s : State) : StaysTuned s s :=
  ⟨[], (List.append_nil _).symm, noFreqWrite_nil _, rfl, rfl, rfl, rfl⟩

theorem StaysTuned.trans {s t u : State} (hst : StaysTuned s t) (htu : StaysTuned t u) : StaysTuned s u := by
  obtain ⟨es, htrace, hes, htx, hlast, hoff, hcfg⟩ := hst
  obtain ⟨fs, htrace', hfs, htx', hlast', hoff', hcfg'⟩ := htu
  refine ⟨es ++ fs, ?_, hes.append (hcfg ▸ hfs), htx'.trans htx, hlast'.trans hlast, hoff'.trans hoff,
    hcfg'.trans hcfg⟩
  rw [htrace', htrace, List.append_assoc]

theorem writeDyn_staysTuned {s : State} (hwf : s.cfg.wf = true) {k : Nat} (hk : k < s.cfg.nDyn) (v : RegValue) :
    StaysTuned s (writeDyn k v s) :=
  ⟨_, writeDyn_trace s k v, noFreqWrite_write (dynAddr_not_freq hwf hk) _ _, rfl, rfl, rfl, rfl⟩

theorem readSqBody_staysTuned (s : State) : StaysTuned s (readSqBody s) := by
  refine ⟨_, readSqBody_trace s, ?_, rfl, rfl, rfl, rfl⟩
  intro e he a _
  rw [List.mem_singleton.1 he]
  rfl

theorem agcBody_staysTuned {s : State} (hwf : s.cfg.wf = true) : StaysTuned s (agcBody s) := by
  rcases agcBody_cases s with hstate | hstate <;> rw [hstate]
  · exact .refl s
  · exact writeDyn_staysTuned hwf (s.cfg.wf_gain hwf).1 _

/-- The parts that neither tune nor set the offset. -/
def Part.SparesTuning : Part → Prop
  | .enter _ _ => False
  | .retune => False
  | .reset => False
  | .setOffset _ => False
  | _ => True

theorem part_staysTuned {p : Part} (hp : p.SparesTuning) {s : State} (hwf : s.cfg.wf = true) (hfits : p.Fits s.cfg) :
    StaysTuned s (p.run s) := by
  cases p with
  | enter | retune | reset | setOffset => exact hp.elim
  | readSq => exact readSqBody_staysTuned s
  | agc => exact agcBody_staysTuned hwf
  | writeDyn k v => exact writeDyn_staysTuned hwf hfits v
  | detect | smeter | setIndex => exact .refl s

theorem runParts_staysTuned {ps : List Part} {s : State} (hwf : s.cfg.wf = true)
    (h : ∀ p ∈ ps, p.SparesTuning ∧ p.Fits s.cfg) : StaysTuned s (runParts ps s) :=
  runParts_rel .refl (fun _ _ _ => .trans) fun p hp t ht => by
    obtain ⟨hspares, hfits⟩ := h p hp
    exact part_staysTuned hspares (ht ▸ hwf) (ht ▸ hfits)

/-! ## Tuning -/

/-- After `pre`, the events end their frequency writes with one run of the three, for a mode, a user frequency and an
offset (R132). -/
def EndsTuned (c : Cfg) (tx : Bool) (f : Hz) (off : Int) (pre es : List BusEvent) : Prop :=
  ∃ post r code oks, BandRow (f.toNat * 10 ^ 9 + off) r code ∧ oks.length = 3 ∧
    es = pre ++ eventsOf (tripleFor c code (f.toNat * 10 ^ 9 + off - if tx then 0 else 137000 * 10 ^ 9) r) oks ++
      post ∧ NoFreqWrite c post

theorem EndsTuned.append {c : Cfg} {tx : Bool} {f : Hz} {off : Int} {pre es fs : List BusEvent}
    (h : EndsTuned c tx f off pre es) (hfs : NoFreqWrite c fs) : EndsTuned c tx f off pre (es ++ fs) := by
  obtain ⟨post, r, code, oks, hrow, hoks, rfl, hpost⟩ := h
  exact ⟨post ++ fs, r, code, oks, hrow, hoks, by simp only [List.append_assoc], hpost.append hfs⟩

theorem EndsTuned.prepend {c : Cfg} {tx : Bool} {f : Hz} {off : Int} {pre es : List BusEvent}
    (h : EndsTuned c tx f off pre es) (ds : List BusEvent) : EndsTuned c tx f off (ds ++ pre) (ds ++ es) := by
  obtain ⟨post, r, code, oks, hrow, hoks, rfl, hpost⟩ := h
  exact ⟨post, r, code, oks, hrow, hoks, by simp only [List.append_assoc], hpost⟩

/-- What the frequency registers were written with from `s` to `t`: nothing, and mode and user frequency stay, or last
the plan in force (R132, R140, R244). -/
def KeepsPlan (s t : State) : Prop :=
  ∃ es, t.trace = s.trace ++ es ∧
    ((NoFreqWrite s.cfg es ∧ t.isTx = s.isTx ∧ t.lastUserFreq = s.lastUserFreq) ∨
      ∃ pre f, t.lastUserFreq = some f ∧ EndsTuned s.cfg t.isTx f t.offset.toInt pre es ∧
        (BlocksAvoidFreq s.cfg → NoFreqWrite s.cfg pre))

theorem StaysTuned.keepsPlan {s t : State} (h : StaysTuned s t) : KeepsPlan s t := by
  obtain ⟨es, htrace, hes, htx, hlast, -⟩ := h
  exact ⟨es, htrace, .inl ⟨hes, htx, hlast⟩⟩

theorem KeepsPlan.stay {s t u : State} (hst : KeepsPlan s t) (hcfg : t.cfg = s.cfg) (htu : StaysTuned t u) :
    KeepsPlan s u := by
  obtain ⟨es, htrace, hplan⟩ := hst
  obtain ⟨fs, htrace', hfs, htx', hlast', hoff', -⟩ := htu
  rw [hcfg] at hfs
  refine ⟨es ++ fs, by rw [htrace', htrace, List.append_assoc], ?_⟩
  rw [htx', hlast', hoff']
  rcases hplan with ⟨hes, htx, hlast⟩ | ⟨pre, f, hlast, htuned, hpre⟩
  · exact .inl ⟨hes.append hfs, htx, hlast⟩
  · exact .inr ⟨pre, f, hlast, htuned.append hfs, hpre⟩

/-- The events of writes in two parts. -/
theorem eventsOf_append (ws ws' : List RegWrite) (oks : List Bool) :
    eventsOf (ws ++ ws') oks = eventsOf ws (oks.take ws.length) ++ eventsOf ws' (oks.drop ws.length) := by
  induction ws generalizing oks with
  | nil => rfl
  | cons w ws ih =>
    cases oks with
    | nil => simp [eventsOf]
    | cons ok oks => simpa [eventsOf] using ih oks

/-- R105: the LO of a mode. -/
theorem lo_eq (tx : Bool) (a : Int) : lo tx a = a - if tx then 0 else 137000 * 10 ^ 9 := by
  cases tx with
  | true => exact (Int.sub_zero a).symm
  | false => rfl

/-- R133: before the run of the three a mode switch writes the static blocks and the dynamic registers. -/
theorem blockWrites_noFreqWrite {s : State} (hwf : s.cfg.wf = true) (havoid : BlocksAvoidFreq s.cfg) (tx : Bool) :
    ∀ w ∈ (if tx then s.cfg.txBlock else s.cfg.rxBlock) ++ s.cfg.commonBlock ++ dynReplay s,
      w.addr ∉ s.cfg.freqAddrs := by
  intro w hw
  rw [List.mem_append] at hw
  rcases hw with hw | hw
  · refine havoid w ?_
    cases tx <;> simp_all
    tauto
  · obtain ⟨d, hd, haddr⟩ := dynReplay_addr hw
    rw [haddr]
    exact s.cfg.wf_dynNotFreq hwf d hd

theorem enter_keepsPlan (tx : Bool) (f : Hz) {s : State} (hwf : s.cfg.wf = true) : KeepsPlan s (enter tx f s) := by
  by_cases hrow : ∃ r code, BandRow (adj s f) r code
  case neg =>
    rw [(enter_of_no_bandRow tx fun r code h => hrow ⟨r, code, h⟩).2]
    exact (StaysTuned.refl s).keepsPlan
  case pos =>
    obtain ⟨r, code, hrow⟩ := hrow
    obtain ⟨oks, ⟨hlength, -⟩, -, hstate⟩ := enter_of_bandRow tx hrow
    rw [enterWrites_of_bandRow s tx hrow] at hlength hstate
    generalize hblock : (if tx then s.cfg.txBlock else s.cfg.rxBlock) ++ s.cfg.commonBlock ++
      List.zipWith (fun d v => RegWrite.mk d.addr v) s.cfg.dynRegs s.dyn = blockWrites at hlength hstate
    rw [hstate]
    refine ⟨_, rfl, .inr ⟨[.line (lineLevel s.cfg tx), .settle] ++
      eventsOf blockWrites (oks.take blockWrites.length), f, rfl,
      ⟨[], r, code, oks.drop blockWrites.length, hrow, ?length, ?events, noFreqWrite_nil _⟩, fun havoid => ?pre⟩⟩
    case length =>
      rw [List.length_drop, hlength, List.length_append, Nat.add_sub_cancel_left]
      rfl
    case events =>
      rw [eventsOf_append, lo_eq, List.append_nil, List.append_assoc]
      rfl
    case pre =>
      refine .append ?_ (noFreqWrite_eventsOf (hblock ▸ blockWrites_noFreqWrite hwf havoid tx) _)
      intro e he a _
      simp only [List.mem_cons, List.not_mem_nil, or_false] at he
      obtain rfl | rfl := he <;> rfl

theorem retune_keepsPlan {s : State} (hwf : s.cfg.wf = true) : KeepsPlan s (retune s) := by
  rcases retune_cases s with ⟨-, -, huntuned⟩ | ⟨f, -, -, htuned⟩
  · rw [huntuned]
    exact (StaysTuned.refl s).keepsPlan
  · rw [htuned]
    exact enter_keepsPlan s.isTx f hwf

theorem chipResetBody_keepsPlan {s : State} (hwf : s.cfg.wf = true) : KeepsPlan s (chipResetBody s) := by
  rcases chipResetBody_cases s with ⟨-, hstate⟩ | ⟨f, -, hstate⟩ <;> rw [hstate]
  · exact (StaysTuned.refl (clearErrors s)).keepsPlan
  · exact enter_keepsPlan false f (s := clearErrors s) hwf

/-- R203: only the first part of TICK tunes. -/
theorem tick_keepsPlan {s : State} (hwf : s.cfg.wf = true) : KeepsPlan s (runParts (program .tick s) s) := by
  have hrest (t : State) (ht : t.cfg = s.cfg) : StaysTuned t (runParts [.readSq, .detect, .agc, .smeter] t) :=
    runParts_staysTuned (ht ▸ hwf) (by simp [Part.SparesTuning, Part.Fits])
  by_cases herr : s.isError = true
  · rw [program, if_pos herr]
    have hcfg := (chipResetBody_inputsKept s).2
    exact (chipResetBody_keepsPlan hwf).stay hcfg (hrest _ hcfg)
  · rw [program, if_neg herr]
    exact (hrest s rfl).keepsPlan

/-- The operations whose program has a part that tunes. -/
theorem program_sparesTuning {i : Instr} (hi : ¬TunesOnly i) (htick : i ≠ .tick) (s : State) :
    ∀ p ∈ program i s, p.SparesTuning := by
  intro p hp
  have hused := program_usedBy i s p hp
  cases p with
  | enter tx f =>
    refine hi ?_
    cases tx with
    | true => exact .inl ⟨f, hused⟩
    | false => exact .inr (.inl ⟨f, hused⟩)
  | retune | setOffset => exact hi (hused.elim (fun h => .inr (.inr (.inl h))) fun h => .inr (.inr (.inr (.inl h))))
  | reset =>
    simp only [Part.UsedBy, List.mem_cons, List.not_mem_nil, or_false] at hused
    exact hused.elim (fun h => hi (.inr (.inr (.inr (.inr h))))) htick
  | _ => exact trivial

/-- R132, R140, R244, for every operation. -/
theorem leaves_keepsPlan (i : Instr) {s : State} (hwf : s.cfg.wf = true) : KeepsPlan s (leaves i s) := by
  have hbody : KeepsPlan s (runParts (program i s) s) := by
    by_cases htick : i = .tick
    · rw [htick]
      exact tick_keepsPlan hwf
    by_cases hi : TunesOnly i
    case neg =>
      exact (runParts_staysTuned hwf fun p hp =>
        ⟨program_sparesTuning hi htick s p hp, program_fits hwf p hp⟩).keepsPlan
    case pos =>
      obtain ⟨f, rfl⟩ | ⟨f, rfl⟩ | ⟨v, rfl⟩ | ⟨v, rfl⟩ | rfl := hi
      · exact enter_keepsPlan true f hwf
      · exact enter_keepsPlan false f hwf
      · exact retune_keepsPlan (s := setOffset (signedOperand v * nhzPerHz) s) hwf
      · obtain hlast | ⟨g, hlast⟩ := Option.eq_none_or_eq_some s.lastUserFreq <;> rw [program, hlast]
        · exact (StaysTuned.refl s).keepsPlan
        · exact retune_keepsPlan (s := setOffset (g.toNat * signedOperand v) s) hwf
      · exact chipResetBody_keepsPlan hwf
  rw [leaves_eq]
  exact hbody

/-- R140: what is appended keeps the property of the whole trace. -/
theorem KeepsPlan.tunedTrace {s t : State} (h : KeepsPlan s t) (hcfg : t.cfg = s.cfg) (ht : t.Inv)
    (hs : s.TunedTrace) : t.TunedTrace := by
  obtain ⟨es, htrace, ⟨hes, htx, hlast⟩ | ⟨pre, f, hlast, htuned, -⟩⟩ := h
  case inr =>
    obtain ⟨post, r, code, oks, hrow, hoks, hevents, hpost⟩ := htuned.prepend s.trace
    obtain ⟨hlow, hhigh⟩ := ht.offsetBound
    rw [← hcfg] at hevents hpost
    exact .inr ⟨_, post, f, _, r, code, oks, hlast, hlow, hhigh, hrow, hoks, htrace.trans hevents, hpost⟩
  case inl =>
    unfold State.TunedTrace
    rw [htrace, hcfg, htx, hlast]
    rcases hs with ⟨hnone, hs⟩ | ⟨pre, post, f, off, r, code, oks, hsome, hlow, hhigh, hrow, hoks, hevents, hpost⟩
    · exact .inl ⟨hnone, hs.append hes⟩
    · refine .inr ⟨pre, post ++ es, f, off, r, code, oks, hsome, hlow, hhigh, hrow, hoks, ?_, hpost.append hes⟩
      rw [hevents, List.append_assoc _ post es]

theorem leaves_tunedTrace (i : Instr) {s : State} (h : s.Inv) (hs : s.TunedTrace) : (leaves i s).TunedTrace :=
  (leaves_keepsPlan i h.cfgWf).tunedTrace (leaves_responded i s).2.2 (leaves_inv i h) hs

/-! ## The cache -/

theorem lastWritten_append (a : RegAddr) (es fs : List BusEvent) :
    lastWritten a (es ++ fs) = (lastWritten a fs).or (lastWritten a es) := by
  rw [lastWritten, List.filterMap_append, List.getLast?_append]
  rfl

/-- The value that a register write puts in the register at `a`, if it is one of that register. -/
def RegWrite.valueFor (a : RegAddr) (w : RegWrite) : Option RegValue := if w.addr = a then some w.value else none

/-- Each write of a sequence is on the trace, whatever the transport answers. -/
theorem lastWritten_eventsOf (a : RegAddr) {ws : List RegWrite} {oks : List Bool} (h : oks.length = ws.length) :
    lastWritten a (eventsOf ws oks) = (ws.filterMap (RegWrite.valueFor a)).getLast? := by
  have hevents : (eventsOf ws oks).filterMap (BusEvent.writtenTo a) = ws.filterMap (RegWrite.valueFor a) := by
    induction ws generalizing oks with
    | nil => rfl
    | cons w ws ih =>
      obtain ⟨ok, oks, rfl⟩ := List.exists_cons_of_length_eq_add_one h
      have htail := ih (Nat.succ_injective h)
      rw [eventsOf] at htail
      rw [eventsOf, List.zipWith_cons_cons, List.filterMap_cons, List.filterMap_cons, htail]
      rfl
  rw [lastWritten, hevents]

theorem filterMap_valueFor_of_ne {a : RegAddr} {ws : List RegWrite} (h : ∀ w ∈ ws, w.addr ≠ a) :
    ws.filterMap (RegWrite.valueFor a) = [] :=
  List.filterMap_eq_nil_iff.2 fun w hw => if_neg (h w hw)

/-- R62, R246: with distinct addresses the replay writes each dynamic register once, with its cache entry. -/
theorem replay_valueFor {ds : List DynReg} {vs : List RegValue} (hlength : vs.length = ds.length)
    (hdistinct : (ds.map DynReg.addr).Nodup) (k : Nat) (hk : k < ds.length) :
    (List.zipWith (fun d v => RegWrite.mk d.addr v) ds vs).filterMap (RegWrite.valueFor ds[k].addr) = [vs[k]] := by
  induction ds generalizing vs k with
  | nil => simp at hk
  | cons d ds ih =>
    obtain ⟨v, vs, rfl⟩ := List.exists_cons_of_length_eq_add_one hlength
    rw [List.map_cons, List.nodup_cons] at hdistinct
    obtain ⟨hhead, htail⟩ := hdistinct
    rw [List.zipWith_cons_cons, List.filterMap_cons]
    cases k with
    | zero =>
      have hothers :
          (List.zipWith (fun d v => RegWrite.mk d.addr v) ds vs).filterMap (RegWrite.valueFor d.addr) = [] := by
        refine filterMap_valueFor_of_ne fun w hw haddr => hhead ?_
        obtain ⟨j, hj, rfl⟩ := List.mem_iff_getElem.1 hw
        rw [List.getElem_zipWith] at haddr
        exact haddr ▸ List.mem_map_of_mem (List.getElem_mem _)
      simp [RegWrite.valueFor, hothers]
    | succ k =>
      have hk' : k < ds.length := by simpa using hk
      have hne : d.addr ≠ ds[k].addr := fun heq => hhead (heq ▸ List.mem_map_of_mem (List.getElem_mem hk'))
      simpa [RegWrite.valueFor, hne] using ih (Nat.succ_injective hlength) htail k hk'

/-- From `s` to `t` each cache entry took what its register was last written with, and else stayed (R62). -/
def WritesThrough (s t : State) : Prop :=
  ∃ es, t.trace = s.trace ++ es ∧ t.cfg = s.cfg ∧
    ∀ k, k < s.cfg.nDyn → t.dynAt k = (lastWritten (dynAddr s.cfg k) es).getD (s.dynAt k)

theorem WritesThrough.refl (s : State) : WritesThrough s s :=
  ⟨[], (List.append_nil _).symm, rfl, fun _ _ => rfl⟩

theorem WritesThrough.cacheWritten {s t : State} (h : WritesThrough s t) (hs : s.CacheWritten) : t.CacheWritten := by
  obtain ⟨es, htrace, hcfg, hdyn⟩ := h
  intro k v hk hlast
  rw [hcfg] at hk hlast
  rw [htrace, lastWritten_append] at hlast
  rw [hdyn k hk]
  cases hnew : lastWritten (dynAddr s.cfg k) es with
  | none =>
    rw [hnew, Option.none_or] at hlast
    exact hs k v hk hlast
  | some w =>
    rw [hnew, Option.some_or] at hlast
    exact (Option.some.inj hlast).symm

theorem dynAddr_eq_getElem {c : Cfg} {k : Nat} (hk : k < c.dynRegs.length) : dynAddr c k = c.dynRegs[k].addr := by
  simp [dynAddr, hk]

/-- R56: two dynamic registers have two addresses. -/
theorem dynAddr_injective {c : Cfg} (hwf : c.wf = true) {j k : Nat} (hj : j < c.nDyn) (hk : k < c.nDyn)
    (h : dynAddr c j = dynAddr c k) : j = k := by
  rw [dynAddr_eq_getElem hj, dynAddr_eq_getElem hk] at h
  have hj' : j < (c.dynRegs.map DynReg.addr).length := by rw [List.length_map]; exact hj
  have hk' : k < (c.dynRegs.map DynReg.addr).length := by rw [List.length_map]; exact hk
  refine (List.Nodup.getElem_inj_iff (c.wf_dynDistinct hwf) (hi := hj') (hj := hk')).1 ?_
  rwa [List.getElem_map, List.getElem_map]

theorem writeDyn_writesThrough {s : State} (h : s.Inv) {k : Nat} (hk : k < s.cfg.nDyn) (v : RegValue) :
    WritesThrough s (writeDyn k v s) := by
  refine ⟨_, writeDyn_trace s k v, rfl, fun j hj => ?_⟩
  rw [dynAt_set s _ k j v (h.dynLength ▸ hk) (writeDyn_dyn s k v)]
  by_cases hkj : k = j
  · simp [lastWritten, BusEvent.writtenTo, hkj]
  · have haddr : dynAddr s.cfg k ≠ dynAddr s.cfg j := fun heq => hkj (dynAddr_injective h.cfgWf hk hj heq)
    simp [lastWritten, BusEvent.writtenTo, hkj, haddr]

/-- R133, R246: a mode switch replays the cache after the static blocks, and the frequency writes name no dynamic
register. -/
theorem enterWrites_valueFor {s : State} (h : s.Inv) (tx : Bool) (p : Plan) {k : Nat} (hk : k < s.cfg.nDyn) :
    ((enterWrites s tx p).filterMap (RegWrite.valueFor (dynAddr s.cfg k))).getLast? = some (s.dynAt k) := by
  have hfreq : (freqWrites s.cfg p).filterMap (RegWrite.valueFor (dynAddr s.cfg k)) = [] := by
    refine filterMap_valueFor_of_ne fun w hw haddr => dynAddr_not_freq h.cfgWf hk ?_
    rw [← haddr]
    simp only [freqWrites, List.mem_cons, List.not_mem_nil, or_false] at hw
    obtain rfl | rfl | rfl := hw <;> simp [Cfg.freqAddrs]
  have hreplay : (dynReplay s).filterMap (RegWrite.valueFor (dynAddr s.cfg k)) = [s.dynAt k] := by
    have hk' : k < s.dyn.length := h.dynLength ▸ hk
    have hentry : s.dynAt k = s.dyn[k] := by simp [State.dynAt, hk']
    rw [hentry, dynAddr_eq_getElem hk]
    exact replay_valueFor h.dynLength (s.cfg.wf_dynDistinct h.cfgWf) k hk
  rw [enterWrites, List.filterMap_append, List.filterMap_append, hfreq, hreplay, List.append_nil,
    List.getLast?_append]
  rfl

theorem enter_writesThrough (tx : Bool) (f : Hz) {s : State} (h : s.Inv) : WritesThrough s (enter tx f s) := by
  rcases enter_cases tx f s with ⟨-, -, hfailed⟩ | ⟨d, oks, -, -, ⟨hlength, -⟩, hentered⟩
  · rw [hfailed]
    exact .refl s
  · rw [hentered]
    refine ⟨_, rfl, rfl, fun k hk => ?_⟩
    rw [lastWritten_append, lastWritten_eventsOf _ hlength, enterWrites_valueFor h tx _ hk]
    rfl

/-- R62, part by part. -/
theorem part_writesThrough {p : Part} {s : State} (h : s.Inv) (hfits : p.Fits s.cfg) : WritesThrough s (p.run s) := by
  cases p with
  | enter tx f => exact enter_writesThrough tx f h
  | retune =>
    change WritesThrough s (retune s)
    rcases retune_cases s with ⟨-, -, huntuned⟩ | ⟨f, -, -, htuned⟩
    · rw [huntuned]
      exact .refl s
    · rw [htuned]
      exact enter_writesThrough s.isTx f h
  | reset =>
    change WritesThrough s (chipResetBody s)
    rcases chipResetBody_cases s with ⟨-, hstate⟩ | ⟨f, -, hstate⟩ <;> rw [hstate]
    · exact .refl (clearErrors s)
    · exact enter_writesThrough false f (clearErrors_inv h)
  | readSq => exact ⟨_, readSqBody_trace s, rfl, fun _ _ => rfl⟩
  | agc =>
    change WritesThrough s (agcBody s)
    rcases agcBody_cases s with hstate | hstate <;> rw [hstate]
    · exact .refl s
    · exact writeDyn_writesThrough h (s.cfg.wf_gain h.cfgWf).1 _
  | writeDyn k v => exact writeDyn_writesThrough h hfits v
  | setOffset | detect | smeter | setIndex => exact WritesThrough.refl s

theorem leaves_cacheWritten (i : Instr) {s : State} (h : s.Inv) (hs : s.CacheWritten) : (leaves i s).CacheWritten := by
  have hbody : (runParts (program i s) s).Inv ∧ (runParts (program i s) s).CacheWritten := by
    refine runParts_rel (R := fun s t => s.Inv ∧ s.CacheWritten → t.Inv ∧ t.CacheWritten) (fun _ => id)
      (fun _ _ _ hst htu => htu ∘ hst) ?_ ⟨h, hs⟩
    rintro p hp t ht ⟨hinv, hcache⟩
    exact ⟨part_inv p hinv, (part_writesThrough hinv (ht ▸ program_fits h.cfgWf p hp)).cacheWritten hcache⟩
  rw [leaves_eq]
  exact hbody.2

end Sys2Proof.Machine

namespace Sys2Proof.Proofs

open Sys2Proof Sys2Proof.Machine

/-- Settles O35. -/
theorem frequencyRegistersHoldThePlan : Obligations.FrequencyRegistersHoldThePlan := by
  intro i s t hinv ht
  obtain rfl := leaves_of_exec i s t ht
  obtain ⟨new, htrace, hkept | ⟨pre, f, hlast, htuned, hpre⟩⟩ := leaves_keepsPlan i hinv.cfgWf
  · exact ⟨new, htrace, .inl hkept⟩
  · obtain ⟨post, r, code, oks, hrow, hoks, hevents, hpost⟩ := htuned
    exact ⟨new, htrace, .inr ⟨pre, post, f, r, code, oks, hlast, hrow, hoks, hevents, hpre, hpost⟩⟩

/-- Settles O51: what an operation appends either spares the frequency registers or ends with a run of its own. -/
theorem stepKeepsTunedTrace : Obligations.StepKeepsTunedTrace := by
  intro s t hinv hs hstep
  have hkept := step_keeps (P := fun s => s.Inv ∧ s.TunedTrace)
    (fun s cs ⟨hinv, hs⟩ => ⟨hinv.withPorts cs s.rsp, hs⟩)
    (fun i _ ⟨hinv, hs⟩ => ⟨leaves_inv i hinv, leaves_tunedTrace i hinv hs⟩) ⟨hinv, hs⟩ hstep
  exact hkept.2

/-- Settles O36. -/
theorem stepKeepsCacheWritten : Obligations.StepKeepsCacheWritten := by
  intro s t hinv hs hstep
  have hkept := step_keeps (P := fun s => s.Inv ∧ s.CacheWritten)
    (fun s cs ⟨hinv, hs⟩ => ⟨hinv.withPorts cs s.rsp, hs⟩)
    (fun i _ ⟨hinv, hs⟩ => ⟨leaves_inv i hinv, leaves_cacheWritten i hinv hs⟩) ⟨hinv, hs⟩ hstep
  exact hkept.2

end Sys2Proof.Proofs
end

section
/-! PROOFS. Rounding (spec/00_scope.md R9), the detector over several calls and the step of the gain loop
(spec/42_signal.md), and the bit fields that share a dynamic register (spec/30_encoding.md section 5). -/

namespace Sys2Proof.Machine

open Sys2Proof

/-! ## Rounding -/

theorem roundHA_of_nonneg {q : Rat} (hq : 0 ≤ q) (n : Int) :
    roundHA q = n ↔ (n : Rat) - 1 / 2 ≤ q ∧ q < n + 1 / 2 := by
  have hfloor : (q + 1 / 2).floor = n ↔ (n : Rat) ≤ q + 1 / 2 ∧ q + 1 / 2 < n + 1 :=
    Int.floor_eq_iff (a := q + 1 / 2)
  rw [roundHA, if_pos hq, hfloor]
  constructor <;> rintro ⟨hlow, hhigh⟩ <;> constructor <;> linarith

/-- R9: below zero the rounding is that of the opposite number, so a tie goes down. -/
theorem roundHA_of_neg {q : Rat} (hq : q < 0) (n : Int) :
    roundHA q = n ↔ (n : Rat) - 1 / 2 < q ∧ q ≤ n + 1 / 2 := by
  have hfloor : (-q + 1 / 2).floor = -n ↔ ((-n : Int) : Rat) ≤ -q + 1 / 2 ∧ -q + 1 / 2 < (-n : Int) + 1 :=
    Int.floor_eq_iff (a := -q + 1 / 2)
  rw [roundHA, if_neg (not_le.2 hq), neg_eq_iff_eq_neg, hfloor]
  push_cast
  constructor <;> rintro ⟨hlow, hhigh⟩ <;> constructor <;> linarith

/-! ## The detector while undetected -/

/-- The filter value after n calls from `f` with a constant sample `x`, while undetected (R167). -/
def risingFilt (x f : Rat) (n : Nat) : Rat := x - (x - f) * (4 / 5) ^ n

theorem risingFilt_succ (x f : Rat) (n : Nat) : risingFilt x (risingFilt x f 1) n = risingFilt x f (n + 1) := by
  unfold risingFilt
  ring

/-- R163, R164: one call in RX with a sufficient SNR. -/
theorem detect_undetected {s : State} (hdet : s.det = false) (hsnr : 2 ≤ s.snr.toNat) (hrx : s.isTx = false) :
    filtNext s = risingFilt s.rssi.toNat s.filt 1 ∧
      detNext s = decide ((s.thr.toNat : Rat) + 3 < risingFilt s.rssi.toNat s.filt 1) := by
  have hfilt : filtNext s = risingFilt s.rssi.toNat s.filt 1 := by
    rw [filtNext_eq, hdet, risingFilt]
    simp only [Bool.false_eq_true, if_false]
    ring
  refine ⟨hfilt, ?_⟩
  rw [detNext_eq, hfilt]
  simp [hdet, hsnr, hrx]

/-- A step that runs a presented DETECT. -/
theorem step_detect {s : State} {cs : List Command} (hwf : s.cfg.wf = true) (hcmds : s.cmds = encode .detect :: cs) :
    ∃ t, step s = .next t ∧ t.filt = filtNext s ∧ t.det = detNext s ∧ t.cmds = cs ∧ t.cfg = s.cfg ∧ t.rssi = s.rssi ∧
      t.snr = s.snr ∧ t.isTx = s.isTx ∧ t.thr = s.thr := by
  have hdecode : decode (encode .detect) = .detect := decode_detect_word 0 0
  rw [step_of_cons hwf hcmds, hdecode, exec_detect]
  exact ⟨_, rfl, rfl, rfl, rfl, rfl, rfl, rfl, rfl, rfl⟩

/-- R167 (a), by induction on the number of calls before the last. -/
theorem run_detect (n : Nat) {s : State} (hwf : s.cfg.wf = true) (hdet : s.det = false) (hsnr : 2 ≤ s.snr.toNat)
    (hrx : s.isTx = false) (hcmds : s.cmds = List.replicate (n + 1) (encode .detect))
    (hlow : ∀ m, 1 ≤ m → m ≤ n → risingFilt s.rssi.toNat s.filt m ≤ (s.thr.toNat : Rat) + 3) :
    ∃ t, Sys2Proof.core.run (n + 1) s = .next t ∧ t.filt = risingFilt s.rssi.toNat s.filt (n + 1) ∧
      t.det = decide ((s.thr.toNat : Rat) + 3 < risingFilt s.rssi.toNat s.filt (n + 1)) := by
  induction n generalizing s with
  | zero =>
    obtain ⟨hfilt, hnext⟩ := detect_undetected hdet hsnr hrx
    obtain ⟨t, hstep, hfilt', hdet', -⟩ := step_detect hwf hcmds
    exact ⟨t, core_run_succ 0 s t hstep, hfilt'.trans hfilt, hdet'.trans hnext⟩
  | succ n ih =>
    obtain ⟨hfilt, hnext⟩ := detect_undetected hdet hsnr hrx
    obtain ⟨t, hstep, hfilt', hdet', hcmds', hcfg, hrssi, hsnr', htx, hthr⟩ := step_detect hwf hcmds
    have hstays : detNext s = false := by
      rw [hnext, decide_eq_false_iff_not, not_lt]
      exact hlow 1 le_rfl (by omega)
    have hlater (m : Nat) : risingFilt t.rssi.toNat t.filt m = risingFilt s.rssi.toNat s.filt (m + 1) := by
      rw [hrssi, hfilt', hfilt, risingFilt_succ]
    obtain ⟨u, hrun, hu⟩ := ih (s := t) (hcfg ▸ hwf) (hdet'.trans hstays) (hsnr' ▸ hsnr) (htx.trans hrx) hcmds'
      fun m h1 hm => by
        rw [hlater, hthr]
        exact hlow (m + 1) (by omega) (by omega)
    rw [hlater, hthr] at hu
    exact ⟨u, (core_run_succ (n + 1) s t hstep).trans hrun, hu⟩

/-! ## Fields of the cache -/

/-- A field is its bits. -/
theorem field_congr {v v' : RegValue} {lsb w : Nat}
    (h : ∀ j, lsb ≤ j → j < lsb + w → v.getLsbD j = v'.getLsbD j) : field v lsb w = field v' lsb w := by
  apply BitVec.eq_of_getElem_eq
  intro i hi
  rw [field_getElem _ _ _ _ hi, field_getElem _ _ _ _ hi]
  exact h _ (by omega) (by omega)

/-- Setting a field leaves every field that shares no bit with it. -/
theorem field_setField_apart {lsb w lsb' w' : Nat} (h : w = 0 ∨ w' = 0 ∨ lsb' + w' ≤ lsb ∨ lsb + w ≤ lsb')
    (hfits : lsb' + w' ≤ 16) (v : RegValue) (x : Nat) : field (setField v lsb w x) lsb' w' = field v lsb' w' := by
  refine field_congr fun j hlow hhigh => ?_
  rw [setField_getLsbD, if_neg (by omega), decide_eq_true (by omega), Bool.true_and]

/-- A field of a cache entry after another entry, or the same, took a value. -/
theorem field_dynAt_set {s t : State} {k : Nat} {v : RegValue} (hk : k < s.dyn.length) (ht : t.dyn = s.dyn.set k v)
    (j lsb w : Nat) (h : k = j → field v lsb w = field (s.dynAt j) lsb w) :
    field (t.dynAt j) lsb w = field (s.dynAt j) lsb w := by
  rw [dynAt_set s t k j v hk ht]
  split_ifs with hkj
  · exact h hkj
  · rfl

/-- R84: in a good state the gain field lies in an entry that the cache has. -/
theorem State.Inv.gain_fits {s : State} (h : s.Inv) : s.cfg.gainK < s.dyn.length ∧ s.cfg.gainLsb + 3 ≤ 16 := by
  obtain ⟨hk, hlsb⟩ := s.cfg.wf_gain h.cfgWf
  exact ⟨h.dynLength ▸ hk, by omega⟩

/-- R85: and so does the squelch field. -/
theorem State.Inv.sql_fits {s : State} (h : s.Inv) :
    s.cfg.sqlK < s.dyn.length ∧ s.cfg.sqlLsb + s.cfg.sqlWidth ≤ 16 := by
  obtain ⟨hk, hlsb⟩ := s.cfg.wf_sql h.cfgWf
  exact ⟨h.dynLength ▸ hk, hlsb⟩

/-- R30, R161: a write of the gain field makes the gain its value. -/
theorem writeGain_gain {s : State} (h : s.Inv) (g : BitVec 3) :
    (writeField s.cfg.gainK s.cfg.gainLsb 3 g.toNat s).gain = g := by
  obtain ⟨hk, hfits⟩ := h.gain_fits
  have hentry := dynAt_set s (writeField s.cfg.gainK s.cfg.gainLsb 3 g.toNat s) _ s.cfg.gainK _ hk rfl
  rw [if_pos rfl] at hentry
  change field ((writeField s.cfg.gainK s.cfg.gainLsb 3 g.toNat s).dynAt s.cfg.gainK) s.cfg.gainLsb 3 = g
  rw [hentry, field_setField_same _ _ _ _ hfits, BitVec.ofNat_toNat, BitVec.setWidth_eq]

/-! ## The gain loop -/

/-- R171: after AGC the gain is the level it asked for. -/
theorem agcBody_gain {s : State} (h : s.Inv) : (agcBody s).gain = agcGain s := by
  by_cases heq : agcGain s = s.gain
  · rw [agcBody, if_pos heq, heq]
  · rw [agcBody, if_neg heq]
    exact writeGain_gain h (agcGain s)

/-- R170, R171: the level after AGC, as an integer. -/
theorem agc_gain_toNat {s t : State} (h : s.Inv) (ht : exec .agc s = .next t) :
    (t.gain.toNat : Int) =
      if s.det = false then 7
      else if agcLevel s ≤ (s.thr.toNat : Rat) then max 0 (min 7 ((s.gain.toNat : Int) + s.cfg.agcLowStep.toInt))
      else if overload < agcLevel s then max 0 ((s.gain.toNat : Int) - 1) else s.gain.toNat := by
  obtain rfl := leaves_of_exec .agc s t ht
  have hgain : (leaves .agc s).gain = agcGain s := agcBody_gain h
  rw [hgain, agcGain, agcNext_toNat]

/-! ## SET_GAIN and SET_SQL -/

/-- R86: the squelch field shares no bit with the gain field. -/
theorem setGain_sqlField {s : State} (h : s.Inv) (l : BitVec 8) :
    field ((leaves (.setGain l) s).dynAt s.cfg.sqlK) s.cfg.sqlLsb s.cfg.sqlWidth =
      field (s.dynAt s.cfg.sqlK) s.cfg.sqlLsb s.cfg.sqlWidth := by
  obtain ⟨-, hfits⟩ := h.sql_fits
  refine field_dynAt_set h.gain_fits.1 rfl _ _ _ fun hk => ?_
  have hapart := s.cfg.wf_disjoint h.cfgWf hk
  rw [field_setField_apart (by omega) hfits, hk]

/-- R86: nor does the gain field with the squelch field. -/
theorem setSql_gain {s : State} (h : s.Inv) (l : BitVec 8) : (leaves (.setSql l) s).gain = s.gain := by
  obtain ⟨-, hfits⟩ := h.gain_fits
  change field ((leaves (.setSql l) s).dynAt s.cfg.gainK) s.cfg.gainLsb 3 = field (s.dynAt s.cfg.gainK) s.cfg.gainLsb 3
  refine field_dynAt_set h.sql_fits.1 rfl _ _ _ fun hk => ?_
  have hapart := s.cfg.wf_disjoint h.cfgWf hk.symm
  rw [field_setField_apart (by omega) hfits, hk]
  rfl

theorem setGain_gain {s : State} (h : s.Inv) (l : BitVec 8) : (leaves (.setGain l) s).gain = gainLevel l :=
  writeGain_gain h (gainLevel l)

/-- R85, R173: the squelch field holds the encoding of the new index, which fits it. -/
theorem setSql_sqlField {s : State} (h : s.Inv) (l : BitVec 8) :
    (field ((leaves (.setSql l) s).dynAt s.cfg.sqlK) s.cfg.sqlLsb s.cfg.sqlWidth).toNat =
      (s.cfg.sqlEnc[min l.toNat 9]'(by omega)).toNat := by
  obtain ⟨hk, hfits⟩ := h.sql_fits
  have hentry := dynAt_set s (leaves (.setSql l) s) _ s.cfg.sqlK _ hk rfl
  have hindex : min l.toNat 9 < 10 := by omega
  rw [if_pos rfl] at hentry
  rw [hentry]
  refine (congrArg BitVec.toNat (field_setField_same _ _ _ _ hfits)).trans ?_
  rw [BitVec.toNat_ofNat, sqlLevel_toNat, sqlEncode_of_lt s.cfg hindex]
  exact Nat.mod_eq_of_lt (s.cfg.wf_sqlEnc h.cfgWf _ hindex)

/-- R32, R173: the threshold is that of the new index. -/
theorem setSql_thr (s : State) (l : BitVec 8) :
    (leaves (.setSql l) s).thr = s.cfg.sqlTable[min l.toNat 9]'(by omega) := by
  change s.cfg.sqlTable[(sqlLevel l).toNat]?.getD 0 = _
  rw [sqlLevel_toNat, Vector.getElem?_eq_getElem (by omega), Option.getD_some]

/-! ## DYN_WRITE of a conforming host -/

/-- A masked write leaves a field whose bits DYN_WRITE does not own (R86, R175; log entry 11). -/
theorem conforming_field {c : Cfg} {k : BitVec 8} {mask : RegValue} (hconf : dynWriteConforms c k mask = true)
    {lsb w : Nat} (hfree : ∀ j, lsb ≤ j → j < lsb + w → (c.dynOwned k.toNat).getLsbD j = false) (old value : RegValue) :
    field (maskedValue old mask value) lsb w = field old lsb w := by
  refine field_congr fun j hlow hhigh => ?_
  have hmask : ¬mask.getLsbD j = true := fun hj => by
    have howned := Cfg.owned_of_conforms hconf j hj
    rw [hfree j hlow hhigh] at howned
    exact Bool.false_ne_true howned
  rw [maskedValue_getLsbD, if_neg hmask]

/-- A conforming DYN_WRITE leaves every field whose bits DYN_WRITE does not own. -/
theorem dynWrite_field {s : State} (h : s.Inv) {k : BitVec 8} {mask : RegValue}
    (hconf : dynWriteConforms s.cfg k mask = true) (value : RegValue) (i : Nat) {lsb w : Nat}
    (hfree : ∀ j, lsb ≤ j → j < lsb + w → (s.cfg.dynOwned i).getLsbD j = false) :
    field ((leaves (.dynWrite k mask value) s).dynAt i) lsb w = field (s.dynAt i) lsb w := by
  by_cases hk : s.cfg.nDyn ≤ k.toNat
  · rw [← leaves_of_exec _ _ _ (exec_dynWrite_of_le mask value hk)]
    rfl
  · have hlt : k.toNat < s.cfg.nDyn := by omega
    rw [← leaves_of_exec _ _ _ (exec_dynWrite_of_lt mask value hlt)]
    refine field_dynAt_set (h.dynLength ▸ hlt) rfl _ _ _ ?_
    rintro rfl
    exact conforming_field hconf hfree _ value

end Sys2Proof.Machine

namespace Sys2Proof.Proofs

open Sys2Proof Sys2Proof.Machine

/-- Settles O28. -/
theorem roundsHalfAwayFromZero : Obligations.RoundsHalfAwayFromZero := by
  intro q n
  rcases le_or_gt 0 q with hq | hq
  · simp [roundHA_of_nonneg hq, hq, not_lt.2 hq]
  · simp [roundHA_of_neg hq, hq, not_le.2 hq]

/-- Settles O39. -/
theorem detectorRiseClosedForm : Obligations.DetectorRiseClosedForm :=
  fun _ n => run_detect n

/-- Settles O42. -/
theorem agcMovesByOne : Obligations.AgcMovesByOne := by
  intro s t hinv ht
  have hgain := agc_gain_toNat hinv ht
  have hlt := s.gain.isLt
  refine ⟨fun hdet => ?_, fun hdet => ?_, fun hdet hstep hless => ?_⟩
  · rw [if_pos hdet] at hgain
    exact BitVec.eq_of_toNat_eq (by exact_mod_cast hgain)
  · rw [if_neg (by simp [hdet])] at hgain
    simp only [List.mem_cons, List.not_mem_nil, or_false]
    rw [agcLowStep_toInt_eq] at hgain
    split_ifs at hgain <;> omega
  · rw [if_neg (by simp [hdet]), hstep] at hgain
    rw [← agcLevel_eq]
    simp only [AgcLowStep.toInt] at hgain
    split_ifs at hgain with hlow hover
    · omega
    · exact hover
    · omega

/-- Settles O46. -/
theorem gainAndSquelchFieldsApart : Obligations.GainAndSquelchFieldsApart := by
  intro s t level hinv
  refine ⟨fun ht => ?setGain, fun ht => ?setSql⟩
  case setGain =>
    obtain rfl := leaves_of_exec _ _ _ ht
    exact ⟨by rw [setGain_gain hinv, gainLevel_toNat], rfl, setGain_sqlField hinv level⟩
  case setSql =>
    obtain rfl := leaves_of_exec _ _ _ ht
    exact ⟨setSql_gain hinv level, sqlLevel_toNat level, setSql_thr s level, setSql_sqlField hinv level⟩

/-- Settles O52: neither field holds a bit that DYN_WRITE owns. -/
theorem conformingDynWriteKeepsFields : Obligations.ConformingDynWriteKeepsFields := by
  intro s t k mask value hinv hconf ht
  obtain rfl := leaves_of_exec _ _ _ ht
  have hcfg := (leaves_responded (.dynWrite k mask value) s).2.2
  have hindex : (leaves (.dynWrite k mask value) s).sqlIndex = s.sqlIndex :=
    leaves_field State.sqlIndex (fun _ _ => rfl) s fun p hp t => (part_frame p t).sqlIndex (by rintro l rfl; cases hp)
  refine ⟨?gain, hindex, ?thr, dynWrite_field hinv hconf value _ (s.cfg.wf_sqlNotOwned hinv.cfgWf)⟩
  case gain =>
    rw [State.gain, State.gain, hcfg]
    exact dynWrite_field hinv hconf value _ (s.cfg.wf_gainNotOwned hinv.cfgWf)
  case thr => rw [State.thr, State.thr, hcfg, hindex]

/-- Settles O53: a well-formed configuration has no such bit. -/
theorem overlappingFieldsAreRefused : Obligations.OverlappingFieldsAreRefused := by
  intro s j hcmds inGain inSql hoverlap
  refine step_refused hcmds (Bool.eq_false_iff.2 fun hwf => ?_)
  obtain ⟨hk, ⟨hglow, hghigh⟩, hslow, hshigh⟩ | ⟨⟨hlow, hhigh⟩, howned⟩ | ⟨⟨hlow, hhigh⟩, howned⟩ := hoverlap
  · have hapart := s.cfg.wf_disjoint hwf hk
    omega
  · rw [s.cfg.wf_gainNotOwned hwf j hlow hhigh] at howned
    cases howned
  · rw [s.cfg.wf_sqlNotOwned hwf j hlow hhigh] at howned
    cases howned

end Sys2Proof.Proofs
end
